-- ==== Sys2Proof/Word.lean ====
section
/-! DEFINITION. The three word types of the CVCP: a byte (R7), a command word (R80), response data (R82). -/

namespace Sys2Proof

/-- A byte: 8 bits (R7). -/
abbrev Byte := BitVec 8

/-- A command word `cmd[15:0]` (R80). -/
abbrev CmdWord := BitVec 16

/-- Response data `data[31:0]` (R82), also the value of a register of the read map (R42). -/
abbrev Data := BitVec 32

end Sys2Proof
end

