-- ==== Sys2Proof/Syntax.lean ====
section
/-! DEFINITION. The thirteen commands (R84), one constructor per row of spec/opcode_table.json. -/

namespace Sys2Proof

/-- The commands of R84. An operand is `cmd[7:0]`, an unsigned byte or an unsigned register number 0..255 (R83). -/
inductive Instr where
  /-- `NOP` (R190). -/
  | nop
  /-- `RD reg` (R193); every one of the 256 register numbers is a legal operand, reserved ones included (R85, V63). -/
  | rd (reg : Byte)
  /-- `CRC.INIT` (R102). -/
  | crcInit
  /-- `CRC.BYTE imm8` (R103). -/
  | crcByte (imm8 : Byte)
  /-- `CRC.CHECK imm8` (R104). -/
  | crcCheck (imm8 : Byte)
  /-- `H.STATUS imm8` (R120). -/
  | hStatus (imm8 : Byte)
  /-- `H.CLEAR` (R121). -/
  | hClear
  /-- `CAL.INIT` (R140). -/
  | calInit
  /-- `CAL.BYTE imm8` (R141). -/
  | calByte (imm8 : Byte)
  /-- `P.INIT` (R145). -/
  | pInit
  /-- `P.BYTE imm8` (R146). -/
  | pByte (imm8 : Byte)
  /-- `P.COMMIT` (R147). -/
  | pCommit
  /-- `CONVERT` (R170). -/
  | convert
  deriving DecidableEq, Repr

/-- The three formats of R81. -/
inductive Format where
  /-- `arg` must be 0x00. -/
  | z
  /-- `arg` is `imm8`, a data byte. -/
  | b
  /-- `arg` is `reg`, a register number of the read map. -/
  | r
  deriving DecidableEq, Repr

/-- The format of each command (R81). -/
def Instr.format : Instr → Format
  | .nop | .crcInit | .hClear | .calInit | .pInit | .pCommit | .convert => .z
  | .crcByte _ | .crcCheck _ | .hStatus _ | .calByte _ | .pByte _ => .b
  | .rd _ => .r

end Sys2Proof
end

