-- ==== Sys2Proof/WellFormed.lean ====
section
/-! DEFINITION. Which pairs of `op` and `arg` are a command (R80, R81, R85). A term of `Instr` needs no further check: its
operand is a byte, and R85 makes every byte a legal operand of formats B and R. What can be ill formed is a pair of fields,
in two ways: an opcode that is not assigned, and a Z opcode with a nonzero `arg`. -/

namespace Sys2Proof

/-- The two fields of a command word (R80). -/
structure Fields where
  /-- `cmd[15:8]` -/
  op : Byte
  /-- `cmd[7:0]` -/
  arg : Byte
  deriving DecidableEq, Repr

/-- The seven Z opcodes of R85. -/
def zOps : List Byte := [0x00, 0x10, 0x21, 0x30, 0x40, 0x42, 0x50]

/-- The six B or R opcodes of R85. -/
def argOps : List Byte := [0x01, 0x11, 0x12, 0x20, 0x31, 0x41]

/-- The opcode is one of the thirteen of R84. -/
def Fields.opAssigned (f : Fields) : Bool := zOps.contains f.op || argOps.contains f.op

/-- A Z opcode has `arg = 0` (R81). -/
def Fields.argAllowed (f : Fields) : Bool := !zOps.contains f.op || f.arg == 0

/-- The fields are a command: R85's procedure. -/
def Fields.wellFormed (f : Fields) : Bool := f.opAssigned && f.argAllowed

end Sys2Proof
end

