-- ==== Sys2Proof/Decode.lean ====
section
/-! DEFINITION. The opcode map (R84), the decoder, total on all 65536 words and rejecting by name (R85, R88), and the encoder. -/

namespace Sys2Proof

/-- `cmd[15:8]` (R80). -/
def cmdOp (w : CmdWord) : Byte := w.extractLsb' 8 8

/-- `cmd[7:0]` (R80, R83). -/
def cmdArg (w : CmdWord) : Byte := w.extractLsb' 0 8

/-- Both fields of a word (R80). -/
def fieldsOf (w : CmdWord) : Fields := ⟨cmdOp w, cmdArg w⟩

/-- Why a word is no command (R88): both are the one illegality of the block, told apart for the reader only. -/
inductive DecodeError where
  /-- The opcode is none of the thirteen. -/
  | unassignedOp (op : Byte)
  /-- A Z opcode with a nonzero `arg` (R89). -/
  | nonzeroArg (op arg : Byte)
  deriving DecidableEq, Repr

/-- One row of the opcode map (R84): `w` is the instruction of the row iff `w AND mask = pattern`. -/
structure OpRow where
  mnemonic : String
  pattern : CmdWord
  mask : CmdWord
  /-- The command, given `cmd[7:0]`. -/
  build : Byte → Instr

/-- The complete opcode map (R84), row by row in the table's order. -/
def opcodeTable : List OpRow :=
  [ ⟨"NOP",       0x0000, 0xFFFF, fun _ => .nop⟩,
    ⟨"RD",        0x0100, 0xFF00, fun a => .rd a⟩,
    ⟨"CRC.INIT",  0x1000, 0xFFFF, fun _ => .crcInit⟩,
    ⟨"CRC.BYTE",  0x1100, 0xFF00, fun a => .crcByte a⟩,
    ⟨"CRC.CHECK", 0x1200, 0xFF00, fun a => .crcCheck a⟩,
    ⟨"H.STATUS",  0x2000, 0xFF00, fun a => .hStatus a⟩,
    ⟨"H.CLEAR",   0x2100, 0xFFFF, fun _ => .hClear⟩,
    ⟨"CAL.INIT",  0x3000, 0xFFFF, fun _ => .calInit⟩,
    ⟨"CAL.BYTE",  0x3100, 0xFF00, fun a => .calByte a⟩,
    ⟨"P.INIT",    0x4000, 0xFFFF, fun _ => .pInit⟩,
    ⟨"P.BYTE",    0x4100, 0xFF00, fun a => .pByte a⟩,
    ⟨"P.COMMIT",  0x4200, 0xFFFF, fun _ => .pCommit⟩,
    ⟨"CONVERT",   0x5000, 0xFFFF, fun _ => .convert⟩ ]

/-- `w` is the instruction of the row (R84). -/
def OpRow.accepts (r : OpRow) (w : CmdWord) : Bool := w &&& r.mask == r.pattern

/-- The name of what is wrong with a word that matches no row. -/
def rejection (w : CmdWord) : DecodeError :=
  if (fieldsOf w).opAssigned then .nonzeroArg (cmdOp w) (cmdArg w) else .unassignedOp (cmdOp w)

/-- Decoding (R84, R85): needs the word alone, no state, no mode, no length detection. -/
def decode (w : CmdWord) : Except DecodeError Instr :=
  match opcodeTable.find? (·.accepts w) with
  | some r => .ok (r.build (cmdArg w))
  | none => .error (rejection w)

/-- A command word from its two fields (R80). -/
def wordOf (op arg : Byte) : CmdWord := (op ++ arg).cast (by decide)

/-- The word of each command (R84). -/
def encode : Instr → CmdWord
  | .nop => wordOf 0x00 0
  | .rd reg => wordOf 0x01 reg
  | .crcInit => wordOf 0x10 0
  | .crcByte imm8 => wordOf 0x11 imm8
  | .crcCheck imm8 => wordOf 0x12 imm8
  | .hStatus imm8 => wordOf 0x20 imm8
  | .hClear => wordOf 0x21 0
  | .calInit => wordOf 0x30 0
  | .calByte imm8 => wordOf 0x31 imm8
  | .pInit => wordOf 0x40 0
  | .pByte imm8 => wordOf 0x41 imm8
  | .pCommit => wordOf 0x42 0
  | .convert => wordOf 0x50 0

/-- The command word whose low `nbits` bits are those of `w`, every bit above them 0. A command word is a number, bit 0 its
least significant bit, and has no byte order (R64; log entry 8). -/
def tableWord (nbits w : Nat) : CmdWord := BitVec.ofNat 16 (w % 2 ^ nbits)

/-- The instruction the decoder reads from a word numbered as spec/opcode_table.json numbers it. -/
def decodeTableWord (nbits w : Nat) : Option Instr := (decode (tableWord nbits w)).toOption

end Sys2Proof
end

