-- ==== Sys2Proof/Machine/Arith.lean ====
section
/-! DEFINITION. The width operators of R8 on mathematical integers. -/

namespace Sys2Proof.Machine

/-- `trunc_N(v)`: `v mod 2^N` as an N-bit pattern, for any integer `v` (R8). -/
def trunc (n : Nat) (v : Int) : BitVec n := BitVec.ofInt n v

/-- `zext_32(v)` of an unsigned element (R8). -/
def zext32 {w : Nat} (v : BitVec w) : Data := v.setWidth 32

/-- `sext_N(v, w)`: the w-bit pattern read as two's complement, as a signed number (R8). -/
def sext {w : Nat} (v : BitVec w) : Int := v.toInt

/-- `wrap_N(v)`: the signed N-bit value congruent to `v` modulo `2^N` (R8). -/
def wrap (n : Nat) (v : Int) : Int :=
  let r := v % 2 ^ n
  if r ≥ 2 ^ (n - 1) then r - 2 ^ n else r

/-- `ovf_N(v)`: `wrap_N(v)` differs from `v` (R8). -/
def ovf (n : Nat) (v : Int) : Bool := wrap n v != v

/-- `asr(v, k)`: `floor(v / 2^k)`, toward minus infinity (R8, R164). -/
def asr (v : Int) (k : Nat) : Int := v / 2 ^ k

/-- `shl(v, k)`: `v * 2^k` exactly; the caller wraps (R8). -/
def shl (v : Int) (k : Nat) : Int := v * 2 ^ k

/-- `sdiv(a, b)`: the quotient truncated toward zero (R8, R164). -/
def sdiv (a b : Int) : Int := a.tdiv b

end Sys2Proof.Machine
end

