-- ==== Sys2Proof/Machine/Params.lean ====
section
/-! DEFINITION. The parameters of R6 whose value the spec fixes. Sizes (H_DATA_LEN, H_FRAME_LEN, CAL_LEN, NCOEF, P_FRAME_LEN and
the widths) are in the types of State and of the words. -/

namespace Sys2Proof.Machine

/-- `CRC_POLY`: x^8 + x^5 + x^4 + 1 without its x^8 term (R6). -/
def crcPoly : Byte := 0x31

/-- `CRC_INIT` (R6). -/
def crcInitValue : Byte := 0xFF

/-- `BUSY_BIT`, the bit of `FRM[0]` that is the busy bit (R6; log entry 7). -/
def busyBit : Nat := 7

/-- `CAL_BIT`, the bit of `FRM[0]` that is the calibrated bit (R6; log entry 7). -/
def calBit : Nat := 3

/-- `T_SCALE`, the divisor from `TCOMP` to degrees Celsius (R6, R183); the division itself is the host's. -/
def tScale : Nat := 100

/-- `P_SCALE`, the divisor from `PCOMP` to millibar (R6, R183); the division itself is the host's. -/
def pScale : Nat := 25600

end Sys2Proof.Machine
end

