-- ==== Sys2Proof/Config.lean ====
section
/-! DEFINITION. The one OPEN parameter of the block, `CAL_UNSIGNED` (R6, R143, decision D14).
The parameters that R6 fixes stand in Machine/Params.lean. -/

namespace Sys2Proof

/-- The two named values of the OPEN parameter `CAL_UNSIGNED`: the set of coefficient indices read as unsigned (R143). -/
inductive CalUnsigned where
  /-- `CAL_UNSIGNED = {0}`: `c[0]` alone is unsigned (the source's count). -/
  | t1
  /-- `CAL_UNSIGNED = {0, 3}`: `c[0]` and `c[3]` are unsigned (the BMP280's assignment). -/
  | t1p1
  deriving DecidableEq, Repr, Inhabited

/-- The value of `CAL_UNSIGNED` that a block comes out of reset with. R6 leaves it OPEN and D14 gives no default, so it has
no body: no proof can see which of the two it is (log entry 1, DESIGN CHOICE). -/
opaque Config.calUnsigned : CalUnsigned

end Sys2Proof
end

