-- ==== Sys2Proof/Machine/State.lean ====
section
/-! DEFINITION. State of the CVCP (R20), the responses and inputs of its port (R82, R93), reset (R240), and the reasons a step
could stop, of which the spec gives none. -/

namespace Sys2Proof.Machine

/-- The response codes of R211. Codes 7 to 15 are never produced (U12) and have no constructor. -/
inductive ResultCode where
  | ok | mismatch | illegal | badlen | locked | nodata | ovf
  deriving DecidableEq, Repr

/-- The bits of `FAULT` (R41). A fault of the spec sets one of them and stops nothing (R212). -/
inductive FaultBit where
  | illegal | badlen | locked | nodata | ovf
  deriving DecidableEq, Repr

/-- The response to one command (R82). -/
structure Response where
  code : ResultCode
  data : Data
  deriving DecidableEq, Repr

/-- What the host can present to the block (R10, R93): the hardware reset, or one command word. -/
inductive Input where
  /-- Hardware reset, input `rst` (R240). -/
  | rst
  /-- `cmd_valid` with `cmd[15:0]` (R80). -/
  | cmd (w : CmdWord)
  deriving DecidableEq, Repr

/-- The reasons a step stops the machine. The spec has none: `step` is a total function (R10) and the faults of R211 are
response codes with sticky bits, after which the next command executes normally (R212). So no constructor, and nothing
raises a `Fault`: safe (log entry 9). -/
inductive Fault where
  deriving DecidableEq, Repr

/-- The reasons an instruction has no meaning. -/
inductive Refusal where
  /-- The arm of an instruction that is not modelled yet; raised by no arm of this model. Safe: the run stops. -/
  | notModelled (mnemonic : String)
  deriving DecidableEq, Repr

/-- The state of the block: the eighteen elements of R20, in the order and under the names of its table, and then three
fields of the model's own. -/
structure State where
  /-- `CRC`, the CRC accumulator (R23). -/
  crc : Byte
  /-- `CNT`, bytes accepted since the last initialisation of the CRC unit; 7 means overrun (R25). -/
  cnt : Fin 8
  /-- `STG[0..5]`, the bytes of the frame being received (R24). -/
  stg : Vector Byte 6
  /-- `FRM[0..6]`, the humidity RawFrame (R26). -/
  frm : Vector Byte 7
  /-- `RETRY` (R29). -/
  retry : Bool
  /-- `CAL[0..25]`, the CalibrationBlock (R30). -/
  cal : Vector Byte 26
  /-- `CALPTR` in 0..26, where the next `CAL.BYTE` goes (R31; log entry 5). -/
  calptr : Fin 27
  /-- `PSTG[0..5]`, the staging bytes of the pressure raw read (R33). -/
  pstg : Vector Byte 6
  /-- `PCNT`; 7 means overrun (R33). -/
  pcnt : Fin 8
  /-- `PFRM[0..5]`, the pressure RawFrame (R34). -/
  pfrm : Vector Byte 6
  /-- `PFRMVALID` (R35). -/
  pfrmValid : Bool
  /-- `CONVNEEDED` (R36). -/
  convNeeded : Bool
  /-- `PHASDATA` (R37). -/
  pHasData : Bool
  /-- `TFINE`, s32, as its two's-complement pattern (R38; log entry 5). -/
  tfine : BitVec 32
  /-- `TCOMP`, s32, as its two's-complement pattern (R38; log entry 5). -/
  tcomp : BitVec 32
  /-- `PCOMP`, u32 (R38). -/
  pcomp : BitVec 32
  /-- `PZERO` (R39). -/
  pzero : Bool
  /-- `FAULT`, bits 4 to 0 = OVF, NODATA, LOCKED, BADLEN, ILLEGAL (R41). -/
  fault : BitVec 5
  /-- The model's own: the OPEN parameter `CAL_UNSIGNED`, which R20 makes an argument of `step`; nothing writes it
  (log entry 1). -/
  calUnsigned : CalUnsigned
  /-- The model's own: what the host presents and the block has not taken yet, in order (R22; log entry 2). -/
  inputs : List Input
  /-- The model's own: the responses given so far, oldest first (R82; log entry 4). -/
  rsps : List Response
  deriving DecidableEq, Repr

/-- The block right after hardware reset (R20, R240), for a given `CAL_UNSIGNED`; no input pending, no response given. -/
def State.resetWith (cu : CalUnsigned) : State where
  crc := 0xFF
  cnt := 0
  stg := Vector.replicate 6 0
  frm := Vector.replicate 7 0
  retry := false
  cal := Vector.replicate 26 0
  calptr := 0
  pstg := Vector.replicate 6 0
  pcnt := 0
  pfrm := Vector.replicate 6 0
  pfrmValid := false
  convNeeded := false
  pHasData := false
  tfine := 0
  tcomp := 0
  pcomp := 0
  pzero := false
  fault := 0
  calUnsigned := cu
  inputs := []
  rsps := []

/-- The machine right after reset (R240), with the OPEN `CAL_UNSIGNED` left open (log entry 1). -/
def State.reset : State := State.resetWith Config.calUnsigned

end Sys2Proof.Machine
end

