-- ==== Sys2Proof/Machine/Flags.lean ====
section
/-! DEFINITION. The derived fields and status bits (R27, R28, R32, R124, R149), the `STATUS` word (R40), the bits of `FAULT` (R41,
R211, R212), and the two level outputs (R93). -/

namespace Sys2Proof.Machine

/-- `HRAW = { FRM[1], FRM[2], FRM[3][7:4] }` (R124). -/
def hraw (frm : Vector Byte 7) : BitVec 20 :=
  (frm[1] ++ frm[2] ++ frm[3].extractLsb' 4 4).cast (by decide)

/-- `TRAW = { FRM[3][3:0], FRM[4], FRM[5] }` (R124). -/
def traw (frm : Vector Byte 7) : BitVec 20 :=
  (frm[3].extractLsb' 0 4 ++ frm[4] ++ frm[5]).cast (by decide)

/-- `ADC_P = { PFRM[0], PFRM[1], PFRM[2][7:4] }` (R149). -/
def adcP (pfrm : Vector Byte 6) : BitVec 20 :=
  (pfrm[0] ++ pfrm[1] ++ pfrm[2].extractLsb' 4 4).cast (by decide)

/-- `ADC_T = { PFRM[3], PFRM[4], PFRM[5][7:4] }` (R149). -/
def adcT (pfrm : Vector Byte 6) : BitVec 20 :=
  (pfrm[3] ++ pfrm[4] ++ pfrm[5].extractLsb' 4 4).cast (by decide)

/-- `H_BUSY = FRM[0][BUSY_BIT]` (R27). -/
def hBusy (s : State) : Bool := s.frm[0].getLsbD busyBit

/-- `H_CAL = FRM[0][CAL_BIT]` (R27). -/
def hCal (s : State) : Bool := s.frm[0].getLsbD calBit

/-- `H_HASDATA = (HRAW != 0) or (TRAW != 0)` (R28, R126). -/
def hHasData (s : State) : Bool := hraw s.frm != 0 || traw s.frm != 0

/-- `CALVALID = (CALPTR == 26)` (R32). -/
def calValid (s : State) : Bool := s.calptr.val == 26

/-- `STATUS`, assembled from state: bits 8 to 0 are PZERO, PHASDATA, CONVNEEDED, PFRMVALID, CALVALID, RETRY, H_CAL, H_BUSY,
H_HASDATA, and bits 31:9 read as 0 (R40). -/
def statusWord (s : State) : Data :=
  (0#23 ++ BitVec.ofBool s.pzero ++ BitVec.ofBool s.pHasData ++ BitVec.ofBool s.convNeeded ++ BitVec.ofBool s.pfrmValid
    ++ BitVec.ofBool (calValid s) ++ BitVec.ofBool s.retry ++ BitVec.ofBool (hCal s) ++ BitVec.ofBool (hBusy s)
    ++ BitVec.ofBool (hHasData s)).cast (by decide)

/-- `code[3:0]` (R211). -/
def ResultCode.bits : ResultCode → BitVec 4
  | .ok => 0
  | .mismatch => 1
  | .illegal => 2
  | .badlen => 3
  | .locked => 4
  | .nodata => 5
  | .ovf => 6

/-- The bit number in `FAULT` (R41). -/
def FaultBit.index : FaultBit → Nat
  | .illegal => 0
  | .badlen => 1
  | .locked => 2
  | .nodata => 3
  | .ovf => 4

/-- The `FAULT` word with one bit set (R41). -/
def FaultBit.mask (f : FaultBit) : BitVec 5 := 1#5 <<< f.index

/-- The response code of the command that sets the bit (R41, R211). -/
def FaultBit.code : FaultBit → ResultCode
  | .illegal => .illegal
  | .badlen => .badlen
  | .locked => .locked
  | .nodata => .nodata
  | .ovf => .ovf

/-- Level output `retry_req = RETRY` (R93). -/
def retryReq (s : State) : Bool := s.retry

/-- Level output `fault_any = (FAULT != 0)` (R93). -/
def faultAny (s : State) : Bool := s.fault != 0

end Sys2Proof.Machine
end

