-- ==== Sys2Proof/Machine/Ops.lean ====
section
/-! DEFINITION. The operations the meanings share: responding (R9, R82), faulting (R212, the block's only exception: it sets a
sticky bit, saves nothing and transfers no control, R223), storing a streamed byte (R76), re-initialising the CRC unit,
an illegal word (R88), hardware reset (R240), and taking the next input (R10). -/

namespace Sys2Proof.Machine

/-- `respond(code, data)` (R9, R82). -/
def respond (code : ResultCode) (data : Data) (s : State) : State :=
  { s with rsps := s.rsps ++ [⟨code, data⟩] }

/-- `fault F`: set the sticky bit `FAULT.F` and nothing else (R212). -/
def setFault (f : FaultBit) (s : State) : State := { s with fault := s.fault ||| f.mask }

/-- A command that faults: `fault F` and then `respond(F, data)`. This is all of taking an exception (R212, R223), and there
is no return from one (R224). -/
def faultRespond (f : FaultBit) (data : Data) (s : State) : State := respond f.code data (setFault f s)

/-- `A[i] <- b` of a streamed byte at the unit's pointer (R76). -/
def putByte {n : Nat} (a : Vector Byte n) (i : Nat) (b : Byte) : Vector Byte n := a.setIfInBounds i b

/-- `CRC <- 0xFF ; CNT <- 0`: the CRC unit in its initial state (R102, R104, R121). -/
def initCrcUnit (s : State) : State := { s with crc := crcInitValue, cnt := 0 }

/-- An illegal word sets `FAULT.ILLEGAL`, responds `(ILLEGAL, 0)` and changes nothing else (R88, R213). -/
def illegalCommand (s : State) : State := faultRespond .illegal 0 s

/-- Hardware reset puts every state element at its reset value (R240). It is no command and gives no response; the
configuration, the inputs still to come and the record of responses are not elements of the block (log entry 3). -/
def hardwareReset (s : State) : State :=
  { State.resetWith s.calUnsigned with inputs := s.inputs, rsps := s.rsps }

/-- The next input the host presents, and the state without it; none when the host presents nothing (R10, R22). -/
def takeInput (s : State) : Option (Input × State) :=
  match s.inputs with
  | [] => none
  | i :: rest => some (i, { s with inputs := rest })

/-- The host presents a command word ahead of everything still to come. -/
def presentFirst (w : CmdWord) (s : State) : State := { s with inputs := .cmd w :: s.inputs }

end Sys2Proof.Machine
end

