-- ==== Sys2Proof/Machine/Calibration.lean ====
section
/-! DEFINITION. The commands of the calibration store (R140, R141). -/

namespace Sys2Proof.Machine

/-- `CAL.INIT` (R140). -/
def execCalInit (s : State) : Host.Outcome State Fault Refusal :=
  if calValid s then .next (faultRespond .locked 0 s) else .next (respond .ok 0 { s with calptr := 0 })

/-- `CAL.BYTE imm8` (R141). -/
def execCalByte (imm8 : Byte) (s : State) : Host.Outcome State Fault Refusal :=
  if calValid s then .next (faultRespond .locked 0 s)
  else .next (respond .ok 0 { s with cal := putByte s.cal s.calptr imm8, calptr := s.calptr + 1 })

end Sys2Proof.Machine
end

