-- ==== Sys2Proof/Machine/Crc.lean ====
section
/-! DEFINITION. The CRC-8 function (R100, R101) and the commands of the CRC unit (R102 to R104). -/

namespace Sys2Proof.Machine

/-- One shift of the CRC register, with the polynomial XORed in when a 1 is shifted out (R100). -/
def crcShift (x : Byte) : Byte := if x.msb then (x <<< 1) ^^^ crcPoly else x <<< 1

/-- `k` shifts of the CRC register. -/
def crcShifts : Nat → Byte → Byte
  | 0, x => x
  | k + 1, x => crcShifts k (crcShift x)

/-- `crc8_step(c, b)` (R100). -/
def crcStep (c b : Byte) : Byte := crcShifts 8 (c ^^^ b)

/-- `crc8` of a byte sequence of any length (R101). -/
def crc8 (bs : List Byte) : Byte := bs.foldl crcStep crcInitValue

/-- `info = {16'b0, computed, received}` (R82, R104). -/
def crcInfo (computed received : Byte) : Data := (0#16 ++ computed ++ received).cast (by decide)

/-- The whole humidity frame: six staged bytes and the received CRC byte (R104). -/
def wholeFrame (stg : Vector Byte 6) (received : Byte) : Vector Byte 7 := stg.push received

/-- `CRC.INIT` (R102). -/
def execCrcInit (s : State) : Host.Outcome State Fault Refusal := .next (respond .ok 0 (initCrcUnit s))

/-- `CRC.BYTE imm8` (R103). -/
def execCrcByte (imm8 : Byte) (s : State) : Host.Outcome State Fault Refusal :=
  if s.cnt.val < 6 then
    .next (respond .ok 0
      { s with stg := putByte s.stg s.cnt imm8, crc := crcStep s.crc imm8, cnt := s.cnt + 1 })
  else
    .next (faultRespond .badlen 0 { s with cnt := 7 })

/-- `CRC.CHECK imm8` (R104): the count is tested before the CRC (R221). -/
def execCrcCheck (imm8 : Byte) (s : State) : Host.Outcome State Fault Refusal :=
  if s.cnt.val ≠ 6 then
    .next (faultRespond .badlen (crcInfo s.crc imm8) (initCrcUnit s))
  else if s.crc = imm8 then
    .next (respond .ok (crcInfo s.crc imm8)
      { initCrcUnit s with frm := wholeFrame s.stg imm8, retry := false })
  else
    .next (respond .mismatch (crcInfo s.crc imm8) { initCrcUnit s with retry := true })

end Sys2Proof.Machine
end

