-- ==== Sys2Proof/Machine/Humidity.lean ====
section
/-! DEFINITION. The commands of the humidity frame (R120, R121). -/

namespace Sys2Proof.Machine

/-- `H.STATUS imm8` (R120). -/
def execHStatus (imm8 : Byte) (s : State) : Host.Outcome State Fault Refusal :=
  .next (respond .ok 0 { s with frm := putByte s.frm 0 imm8 })

/-- `H.CLEAR` (R121). -/
def execHClear (s : State) : Host.Outcome State Fault Refusal :=
  .next (respond .ok 0 { initCrcUnit s with frm := Vector.replicate 7 0, retry := false })

end Sys2Proof.Machine
end

