-- ==== Sys2Proof/Machine/RawFrame.lean ====
section
/-! DEFINITION. The commands of the pressure raw read (R145 to R147). -/

namespace Sys2Proof.Machine

/-- `P.INIT` (R145). -/
def execPInit (s : State) : Host.Outcome State Fault Refusal := .next (respond .ok 0 { s with pcnt := 0 })

/-- `P.BYTE imm8` (R146). -/
def execPByte (imm8 : Byte) (s : State) : Host.Outcome State Fault Refusal :=
  if s.pcnt.val < 6 then
    .next (respond .ok 0 { s with pstg := putByte s.pstg s.pcnt imm8, pcnt := s.pcnt + 1 })
  else
    .next (faultRespond .badlen 0 { s with pcnt := 7 })

/-- `P.COMMIT` (R147). -/
def execPCommit (s : State) : Host.Outcome State Fault Refusal :=
  if s.pcnt.val ≠ 6 then
    .next (faultRespond .badlen 0 { s with pcnt := 0 })
  else
    .next (respond .ok 0
      { s with pfrm := s.pstg, pfrmValid := true, convNeeded := true, pHasData := true, pcnt := 0 })

end Sys2Proof.Machine
end

