-- ==== Sys2Proof/Machine/Operands.lean ====
section
/-! DEFINITION. The one operand form with structure: `reg`, a register number of the read map (R42, R83), what each register
reads as (R42, R193), the linear scaler (R127 to R129) and the coefficients (R143). -/

namespace Sys2Proof.Machine

/-- The three result registers, whose read may run a conversion (R68, R196). -/
inductive ResultReg where
  | tfine | tcomp | pcomp
  deriving DecidableEq, Repr

/-- The named registers of the read map (R42). -/
inductive Reg where
  | status | fault | crc | cnt | calptr | pcnt
  | hraw | traw | hum | tempc | tempf
  | adcT | adcP
  | result (q : ResultReg)
  | frm (i : Fin 7) | stg (i : Fin 6) | pfrm (i : Fin 6) | pstg (i : Fin 6)
  | cal (i : Fin 26) | coef (k : Fin 12)
  deriving DecidableEq, Repr

/-- The register number of each name (R42). -/
def Reg.number : Reg → Byte
  | .status => 0x00
  | .fault => 0x01
  | .crc => 0x02
  | .cnt => 0x03
  | .calptr => 0x04
  | .pcnt => 0x05
  | .hraw => 0x08
  | .traw => 0x09
  | .hum => 0x0A
  | .tempc => 0x0B
  | .tempf => 0x0C
  | .adcT => 0x10
  | .adcP => 0x11
  | .result .tfine => 0x12
  | .result .tcomp => 0x13
  | .result .pcomp => 0x14
  | .frm i => 0x20 + BitVec.ofNat 8 i
  | .stg i => 0x28 + BitVec.ofNat 8 i
  | .pfrm i => 0x30 + BitVec.ofNat 8 i
  | .pstg i => 0x38 + BitVec.ofNat 8 i
  | .cal i => 0x40 + BitVec.ofNat 8 i
  | .coef k => 0x60 + BitVec.ofNat 8 k

/-- All named registers, in the order of R42. -/
def Reg.all : List Reg :=
  [.status, .fault, .crc, .cnt, .calptr, .pcnt, .hraw, .traw, .hum, .tempc, .tempf, .adcT, .adcP,
    .result .tfine, .result .tcomp, .result .pcomp]
  ++ (List.finRange 7).map .frm ++ (List.finRange 6).map .stg ++ (List.finRange 6).map .pfrm ++ (List.finRange 6).map .pstg
  ++ (List.finRange 26).map .cal ++ (List.finRange 12).map .coef

/-- The register a number names; none for a reserved number (R42). -/
def regOf (r : Byte) : Option Reg := Reg.all.find? (fun g => g.number == r)

/-- `HUM = HRAW * 100`, Q.20 percent (R127). -/
def hum (frm : Vector Byte 7) : Int := (hraw frm).toNat * 100

/-- `TEMPC = TRAW * 200 - 52428800`, Q.20 degrees Celsius (R128). -/
def tempC (frm : Vector Byte 7) : Int := (traw frm).toNat * 200 - 52428800

/-- `TEMPF = TRAW * 360 - 60817408`, Q.20 degrees Fahrenheit (R129). -/
def tempF (frm : Vector Byte 7) : Int := (traw frm).toNat * 360 - 60817408

/-- `k in CAL_UNSIGNED` (R143). -/
def readUnsigned (cu : CalUnsigned) (k : Fin 12) : Bool :=
  match cu with
  | .t1 => k == 0
  | .t1p1 => k == 0 || k == 3

/-- `raw16(k) = { CAL[2k+1], CAL[2k] }`, little-endian (R62, R143). -/
def raw16 (cal : Vector Byte 26) (k : Fin 12) : BitVec 16 :=
  (cal[2 * k.val + 1] ++ cal[2 * k.val]).cast (by decide)

/-- The coefficient `c[k]` (R143). -/
def coef (cu : CalUnsigned) (cal : Vector Byte 26) (k : Fin 12) : Int :=
  if readUnsigned cu k then (raw16 cal k).toNat else sext (raw16 cal k)

/-- The cached result registers as they stand (R42: trunc_32 of a signed register is its pattern). -/
def resultValue (q : ResultReg) (s : State) : Data :=
  match q with
  | .tfine => s.tfine
  | .tcomp => s.tcomp
  | .pcomp => s.pcomp

/-- `RegRead(reg)`, the value column of R42: a pure function of the state (R193). -/
def regRead (g : Reg) (s : State) : Data :=
  match g with
  | .status => statusWord s
  | .fault => zext32 s.fault
  | .crc => zext32 s.crc
  | .cnt => BitVec.ofNat 32 s.cnt
  | .calptr => BitVec.ofNat 32 s.calptr
  | .pcnt => BitVec.ofNat 32 s.pcnt
  | .hraw => zext32 (hraw s.frm)
  | .traw => zext32 (traw s.frm)
  | .hum => trunc 32 (hum s.frm)
  | .tempc => trunc 32 (tempC s.frm)
  | .tempf => trunc 32 (tempF s.frm)
  | .adcT => zext32 (adcT s.pfrm)
  | .adcP => zext32 (adcP s.pfrm)
  | .result q => resultValue q s
  | .frm i => zext32 s.frm[i]
  | .stg i => zext32 s.stg[i]
  | .pfrm i => zext32 s.pfrm[i]
  | .pstg i => zext32 s.pstg[i]
  | .cal i => zext32 s.cal[i]
  | .coef k => trunc 32 (coef s.calUnsigned s.cal k)

end Sys2Proof.Machine
end

