-- ==== Sys2Proof/Machine/Compensation.lean ====
section
/-! DEFINITION. The fixed-point compensation pipeline (R160 to R179): stage T in 32 bits, stage P in 64 bits, every step exact and
then wrapped, and `CONVERT` (R170). Each stage answers a record of the rule's own step names, and the list `steps` says, in
order, which of its checked steps [On] overflowed (R163, R179). -/

namespace Sys2Proof.Machine

/-- The twelve coefficients by name (R144). -/
structure Coefs where
  T1 : Int
  T2 : Int
  T3 : Int
  P1 : Int
  P2 : Int
  P3 : Int
  P4 : Int
  P5 : Int
  P6 : Int
  P7 : Int
  P8 : Int
  P9 : Int
  deriving DecidableEq, Repr

/-- `c[0..11]` read from the calibration store (R143, R144). -/
def coefs (cu : CalUnsigned) (cal : Vector Byte 26) : Coefs where
  T1 := coef cu cal 0
  T2 := coef cu cal 1
  T3 := coef cu cal 2
  P1 := coef cu cal 3
  P2 := coef cu cal 4
  P3 := coef cu cal 5
  P4 := coef cu cal 6
  P5 := coef cu cal 7
  P6 := coef cu cal 8
  P7 := coef cu cal 9
  P8 := coef cu cal 10
  P9 := coef cu cal 11

/-- The named values of stage T (R172); `steps` are [O1] to [O6]. -/
structure StageT where
  a1 : Int
  a2 : Int
  a3 : Int
  a4 : Int
  var1 : Int
  b1 : Int
  b2 : Int
  b3 : Int
  b4 : Int
  var2 : Int
  tf : Int
  t1 : Int
  t2 : Int
  tc : Int
  steps : List Bool
  deriving DecidableEq, Repr

/-- Stage T: temperature (R172). -/
def stageT (c : Coefs) (adcT : Int) : StageT :=
  let a1 := asr adcT 3
  let a2 := c.T1 * 2
  let a3 := a1 - a2
  let a4 := wrap 32 (a3 * c.T2)
  let var1 := asr a4 11
  let b1 := asr adcT 4 - c.T1
  let b2 := wrap 32 (b1 * b1)
  let b3 := asr b2 12
  let b4 := wrap 32 (b3 * c.T3)
  let var2 := asr b4 14
  let tf := wrap 32 (var1 + var2)
  let t1 := wrap 32 (tf * 5)
  let t2 := wrap 32 (t1 + 128)
  let tc := asr t2 8
  let steps :=
    [ovf 32 (a3 * c.T2), ovf 32 (b1 * b1), ovf 32 (b3 * c.T3), ovf 32 (var1 + var2), ovf 32 (tf * 5), ovf 32 (t1 + 128)]
  { a1, a2, a3, a4, var1, b1, b2, b3, b4, var2, tf, t1, t2, tc, steps }

/-- The named values of stage P's first part (R174); `steps` are [O7] to [O16]. -/
structure PolyTerms where
  v : Int
  p1 : Int
  p2 : Int
  p3 : Int
  p4 : Int
  p5 : Int
  var2 : Int
  p7 : Int
  p8 : Int
  p9 : Int
  p10 : Int
  var1 : Int
  steps : List Bool
  deriving DecidableEq, Repr

/-- Stage P, first part: the two polynomial terms in the fine temperature (R174). -/
def polyTerms (c : Coefs) (tf : Int) : PolyTerms :=
  let v := tf - 128000
  let p1 := wrap 64 (v * v)
  let p2 := wrap 64 (p1 * c.P6)
  let p3 := wrap 64 (v * c.P5)
  let p4 := wrap 64 (shl p3 17)
  let p5 := wrap 64 (p2 + p4)
  let var2 := wrap 64 (p5 + shl c.P4 35)
  let p7 := wrap 64 (p1 * c.P3)
  let p8 := asr p7 8
  let p9 := wrap 64 (v * c.P2)
  let p10 := wrap 64 (shl p9 12)
  let var1 := wrap 64 (p8 + p10)
  let steps :=
    [ovf 64 (v * v), ovf 64 (p1 * c.P6), ovf 64 (v * c.P5), ovf 64 (shl p3 17), ovf 64 (p2 + p4), ovf 64 (p5 + shl c.P4 35),
      ovf 64 (p1 * c.P3), ovf 64 (v * c.P2), ovf 64 (shl p9 12), ovf 64 (p8 + p10)]
  { v, p1, p2, p3, p4, p5, var2, p7, p8, p9, p10, var1, steps }

/-- The named values of the denominator (R175); `steps` are [O17] and [O18]. -/
structure Denominator where
  d1 : Int
  d2 : Int
  den : Int
  steps : List Bool
  deriving DecidableEq, Repr

/-- Stage P, second part: the denominator (R175). -/
def denominator (c : Coefs) (var1 : Int) : Denominator :=
  let d1 := wrap 64 (2 ^ 47 + var1)
  let d2 := wrap 64 (d1 * c.P1)
  let den := asr d2 33
  let steps := [ovf 64 (2 ^ 47 + var1), ovf 64 (d1 * c.P1)]
  { d1, d2, den, steps }

/-- The named values of stage P's third part (R177); `steps` are [O19] to [O28]. -/
structure Quotient where
  n1 : Int
  n2 : Int
  n3 : Int
  q : Int
  h : Int
  e1 : Int
  e2 : Int
  e3 : Int
  g1 : Int
  g2 : Int
  s1 : Int
  s2 : Int
  s3 : Int
  pf : Int
  pc : BitVec 32
  steps : List Bool
  deriving DecidableEq, Repr

/-- Stage P, third part: the quotient and its two corrections (R177), for a denominator that is not 0. -/
def quotient (c : Coefs) (adcP var2 den : Int) : Quotient :=
  let n1 := 1048576 - adcP
  let n2 := wrap 64 (shl n1 31 - var2)
  let n3 := wrap 64 (n2 * 3125)
  let q := wrap 64 (sdiv n3 den)
  let h := asr q 13
  let e1 := wrap 64 (c.P9 * h)
  let e2 := wrap 64 (e1 * h)
  let e3 := asr e2 25
  let g1 := wrap 64 (c.P8 * q)
  let g2 := asr g1 19
  let s1 := wrap 64 (q + e3)
  let s2 := wrap 64 (s1 + g2)
  let s3 := asr s2 8
  let pf := wrap 64 (s3 + c.P7 * 16)
  let pc := trunc 32 pf
  let steps :=
    [ovf 64 (shl n1 31 - var2), ovf 64 (n2 * 3125), ovf 64 (sdiv n3 den), ovf 64 (c.P9 * h), ovf 64 (e1 * h),
      ovf 64 (c.P8 * q), ovf 64 (q + e3), ovf 64 (s1 + g2), ovf 64 (s3 + c.P7 * 16), (pc.toNat : Int) != pf]
  { n1, n2, n3, q, h, e1, e2, e3, g1, g2, s1, s2, s3, pf, pc, steps }

/-- What a conversion gives (R170, R171): `tf` and `tc` as integers of 32 bits, the pressure, the zero-denominator flag, and
which of the evaluated steps [O1] to [O28] overflowed. -/
structure Conversion where
  tf : Int
  tc : Int
  pc : BitVec 32
  pz : Bool
  steps : List Bool
  deriving DecidableEq, Repr

/-- `ov`: at least one evaluated step overflowed (R179). -/
def Conversion.ov (r : Conversion) : Bool := r.steps.any id

/-- `convert(c, ADC_T, ADC_P)` (R171): stage T, then stage P with the zero-denominator guard (R176), after which no step is
evaluated or counted. -/
def convert (c : Coefs) (adcT adcP : Int) : Conversion :=
  let t := stageT c adcT
  let p := polyTerms c t.tf
  let d := denominator c p.var1
  if d.den = 0 then
    { tf := t.tf, tc := t.tc, pc := 0, pz := true, steps := t.steps ++ p.steps ++ d.steps }
  else
    let q := quotient c adcP p.var2 d.den
    { tf := t.tf, tc := t.tc, pc := q.pc, pz := false, steps := t.steps ++ p.steps ++ d.steps ++ q.steps }

/-- The one divisor of the pipeline, as a function of the conversion's arguments (R175). -/
def divisor (c : Coefs) (adcT : Int) : Denominator := denominator c (polyTerms c (stageT c adcT).tf).var1

/-- The conversion of the committed frame and the loaded calibration (R170). -/
def conversionOf (s : State) : Conversion :=
  convert (coefs s.calUnsigned s.cal) (adcT s.pfrm).toNat (adcP s.pfrm).toNat

/-- `TFINE <- tf ; TCOMP <- tc ; PCOMP <- pc ; PZERO <- pz ; CONVNEEDED <- 0` (R170, R196). -/
def storeConversion (r : Conversion) (s : State) : State :=
  { s with
    tfine := trunc 32 r.tf, tcomp := trunc 32 r.tc, pcomp := r.pc, pzero := r.pz, convNeeded := false }

/-- The end of a command that ran a conversion: `OVF` and its sticky bit when a step overflowed, else `OK` (R170, R179, R196). -/
def respondConverted (ov : Bool) (data : Data) (s : State) : State :=
  if ov then faultRespond .ovf data s else respond .ok data s

/-- `CONVERT` (R170): runs whether or not `CONVNEEDED` is set. -/
def execConvert (s : State) : Host.Outcome State Fault Refusal :=
  if s.pfrmValid = false ∨ calValid s = false then
    .next (faultRespond .nodata 0 s)
  else
    .next (respondConverted (conversionOf s).ov 0 (storeConversion (conversionOf s) s))

end Sys2Proof.Machine
end

