-- ==== Sys2Proof/Machine/System.lean ====
section
/-! DEFINITION. `NOP` (R190) and `RD` (R193) with the lazy conversion (R196) and the consumption of `PHASDATA` (R197). -/

namespace Sys2Proof.Machine

/-- `NOP` (R190). -/
def execNop (s : State) : Host.Outcome State Fault Refusal := .next (respond .ok 0 s)

/-- A successful read of `PCOMP` clears `PHASDATA`; a read of `TFINE` or `TCOMP` leaves it (R197). -/
def consume (q : ResultReg) (s : State) : State :=
  match q with
  | .pcomp => { s with pHasData := false }
  | .tfine | .tcomp => s

/-- `RD` of a result register (R196). -/
def readResult (q : ResultReg) (s : State) : State :=
  if s.pfrmValid = false then
    faultRespond .nodata 0 s
  else if s.convNeeded = true ∧ calValid s = false then
    faultRespond .nodata 0 s
  else if s.convNeeded then
    let r := conversionOf s
    let s' := consume q (storeConversion r s)
    respondConverted r.ov (resultValue q s') s'
  else
    respond .ok (resultValue q s) (consume q s)

/-- `RD reg` (R193). -/
def execRd (reg : Byte) (s : State) : Host.Outcome State Fault Refusal :=
  match regOf reg with
  | none => .next (faultRespond .illegal 0 s)
  | some (.result q) => .next (readResult q s)
  | some g => .next (respond .ok (regRead g s) s)

end Sys2Proof.Machine
end

