-- ==== Sys2Proof/Machine/Dispatch.lean ====
section
/-! DEFINITION. One arm per command. -/

namespace Sys2Proof.Machine

/-- The effect of each command. -/
def exec (i : Instr) (s : State) : Host.Outcome State Fault Refusal :=
  match i with
  | .nop => Sys2Proof.Machine.execNop s
  | .rd reg => Sys2Proof.Machine.execRd reg s
  | .crcInit => Sys2Proof.Machine.execCrcInit s
  | .crcByte imm8 => Sys2Proof.Machine.execCrcByte imm8 s
  | .crcCheck imm8 => Sys2Proof.Machine.execCrcCheck imm8 s
  | .hStatus imm8 => Sys2Proof.Machine.execHStatus imm8 s
  | .hClear => Sys2Proof.Machine.execHClear s
  | .calInit => Sys2Proof.Machine.execCalInit s
  | .calByte imm8 => Sys2Proof.Machine.execCalByte imm8 s
  | .pInit => Sys2Proof.Machine.execPInit s
  | .pByte imm8 => Sys2Proof.Machine.execPByte imm8 s
  | .pCommit => Sys2Proof.Machine.execPCommit s
  | .convert => Sys2Proof.Machine.execConvert s

end Sys2Proof.Machine
end

