-- ==== Sys2Proof/Machine/Step.lean ====
section
/-! DEFINITION. One step: the block takes the next input the host presents (R10). -/

namespace Sys2Proof.Machine

/-- `step` (R10): a command word is decoded and executed, an illegal word has R88's effect, hardware reset R240's. With no
input presented nothing happens (R10: "nothing happens between commands"; log entry 2). -/
def step (s : State) : Host.Outcome State Fault Refusal :=
  match takeInput s with
  | none => .next s
  | some (.rst, s') => .next (hardwareReset s')
  | some (.cmd w, s') =>
    match decode w with
    | .ok i => exec i s'
    | .error _ => .next (illegalCommand s')

/-- The state with a command word, numbered as spec/opcode_table.json numbers it, presented as the very next input. -/
def State.withFetchWord (s : State) (nbits w : Nat) : State := presentFirst (tableWord nbits w) s

end Sys2Proof.Machine
end

