-- ==== Sys2Proof/Machine/Sequences.lean ====
section
/-! DEFINITION. Command sequences the spec names: the pseudo-instructions (R92), the accessors with the meaning of what they
read (R183, R194), and the host operations as the commands they send (R257). None is atomic: each is the listed commands in
order, and other inputs may fall between them (R92, R251). -/

namespace Sys2Proof.Machine

/-- The pseudo-instructions of R92. -/
inductive Pseudo where
  | hframe (d : Vector Byte 6) (c : Byte)
  | calblock (b : Vector Byte 26)
  | pframe (b : Vector Byte 6)
  | habort | pabort | temperature | pressure
  deriving DecidableEq, Repr

/-- The fixed expansion of each (R92). -/
def Pseudo.expand : Pseudo → List Instr
  | .hframe d c => .crcInit :: d.toList.map .crcByte ++ [.crcCheck c]
  | .calblock b => .calInit :: b.toList.map .calByte
  | .pframe b => .pInit :: b.toList.map .pByte ++ [.pCommit]
  | .habort => [.crcInit]
  | .pabort => [.pInit]
  | .temperature => [.rd (Reg.number (.result .tcomp))]
  | .pressure => [.rd (Reg.number (.result .pcomp))]

/-- The host presents these commands, in order, ahead of everything still to come. -/
def present (is : List Instr) (s : State) : State :=
  { s with inputs := is.map (fun i => .cmd (encode i)) ++ s.inputs }

/-- The accessors of R194. -/
inductive Accessor where
  | hHasData | hBusy | hCalibrated | hHumidity | hTemperature | hTemperatureF
  | hRawHumidity | hRawTemperature | hRawByte (i : Fin 7)
  | pHasData | pTemperature | pPressure
  | pRawTemperature | pRawPressure | pRawByte (i : Fin 6) | pFine | pCalByte (i : Fin 26) | pCoef (k : Fin 12)
  deriving DecidableEq, Repr

/-- The register each accessor reads (R194). -/
def Accessor.reg : Accessor → Reg
  | .hHasData | .hBusy | .hCalibrated | .pHasData => .status
  | .hHumidity => .hum
  | .hTemperature => .tempc
  | .hTemperatureF => .tempf
  | .hRawHumidity => .hraw
  | .hRawTemperature => .traw
  | .hRawByte i => .frm i
  | .pTemperature => .result .tcomp
  | .pPressure => .result .pcomp
  | .pRawTemperature => .adcT
  | .pRawPressure => .adcP
  | .pRawByte i => .pfrm i
  | .pFine => .result .tfine
  | .pCalByte i => .cal i
  | .pCoef k => .coef k

/-- The command of each accessor (R194). -/
def Accessor.command (a : Accessor) : Instr := .rd a.reg.number

/-- What an accessor means to its caller: a flag, or an exact rational (R131, R183). -/
inductive Reading where
  | flag (b : Bool)
  | quantity (q : ℚ)
  deriving DecidableEq

/-- The value column of R194, from the response data. -/
def Accessor.value (a : Accessor) (data : Data) : Reading :=
  match a with
  | .hHasData => .flag (data.getLsbD 0)
  | .hBusy => .flag (data.getLsbD 1)
  | .hCalibrated => .flag (data.getLsbD 2)
  | .pHasData => .flag (data.getLsbD 7)
  | .hHumidity => .quantity (data.toNat / 2 ^ 20)
  | .hTemperature | .hTemperatureF => .quantity (sext data / 2 ^ 20)
  | .pTemperature => .quantity (sext data / tScale)
  | .pPressure => .quantity (data.toNat / pScale)
  | .pFine | .pCoef _ => .quantity (sext data)
  | .hRawHumidity | .hRawTemperature | .hRawByte _ | .pRawTemperature | .pRawPressure | .pRawByte _ | .pCalByte _ =>
    .quantity data.toNat

/-- How the frame read of a completion callback ends (R257). -/
inductive FrameRead (frame : Type) where
  | busy
  | busError
  | frame (f : frame)
  deriving DecidableEq, Repr

/-- The host operations of R257; a status byte is `none` where its bus read failed or the host gives it to nobody. -/
inductive HostOp where
  | hInit
  | hUpdateStatus (status : Option Byte)
  | hMeasure (status : Option Byte)
  | hCallback (status : Option Byte) (read : FrameRead (Vector Byte 6 × Byte))
  | hReset (written : Bool)
  | hAccessor (a : Accessor)
  | pConstruct (cal : Vector Byte 26)
  | pConfigure
  | pMeasureNormal (frame : Vector Byte 6)
  | pCallback (read : FrameRead (Vector Byte 6))
  | pTemperature | pPressure | pHasData
  deriving DecidableEq, Repr

/-- `H.STATUS s` where a status byte was read (R257). -/
def statusCommands : Option Byte → List Instr
  | none => []
  | some b => [.hStatus b]

/-- The block commands inside each host operation, in order (R257). -/
def HostOp.commands : HostOp → List Instr
  | .hInit | .pConfigure => []
  | .hUpdateStatus status => statusCommands status
  | .hMeasure status => statusCommands status ++ [.rd (Reg.number .status)]
  | .hCallback status .busy => statusCommands status
  | .hCallback status .busError => statusCommands status ++ Pseudo.habort.expand
  | .hCallback status (.frame (d, c)) => statusCommands status ++ (Pseudo.hframe d c).expand
  | .hReset written => if written then [.hClear] else []
  | .hAccessor a => [a.command]
  | .pConstruct cal => (Pseudo.calblock cal).expand
  | .pMeasureNormal frame => (Pseudo.pframe frame).expand
  | .pCallback .busy => []
  | .pCallback .busError => Pseudo.pabort.expand
  | .pCallback (.frame b) => (Pseudo.pframe b).expand
  | .pTemperature => Pseudo.temperature.expand
  | .pPressure => Pseudo.pressure.expand
  | .pHasData => [.rd (Reg.number .status)]

end Sys2Proof.Machine
end

