-- ==== Sys2Proof/Safety.lean ====
section
/-! DEFINITION. What claims speak in terms of: a state free of recorded faults (R212), the invariant of R45, the reachable
states, the inputs of a conversion being there (R243), and the two paths that share nothing (R229). -/

namespace Sys2Proof.Machine

/-- No fault is recorded: the premise R212 asks every claim about delivered values to take. -/
def faultFree (s : State) : Bool := s.fault == 0

/-- The cached results are those of the current calibration and frame (R45 item 4). -/
def resultsCurrent (s : State) : Bool :=
  s.tfine == trunc 32 (conversionOf s).tf && s.tcomp == trunc 32 (conversionOf s).tc && s.pcomp == (conversionOf s).pc
    && s.pzero == (conversionOf s).pz

/-- R45 items 3 and 4; its items 1 and 2 hold by the types of `CNT`, `PCNT` and `CALPTR`. -/
abbrev Coherent (s : State) : Prop :=
  (s.convNeeded = true → s.pfrmValid = true) ∧ (s.pHasData = true → s.pfrmValid = true) ∧
    (s.pfrmValid = true → s.convNeeded = false → calValid s = true ∧ resultsCurrent s = true)

/-- The states of a run from reset, whatever the host presents and whichever value `CAL_UNSIGNED` has (R45). -/
inductive Reachable : State → Prop where
  | start (cu : CalUnsigned) (ins : List Input) : Reachable { State.resetWith cu with inputs := ins }
  | step (s t : State) (hs : Reachable s) (ht : step s = .next t) : Reachable t

/-- A conversion can run: a frame was committed and the calibration is loaded (R170, R243). -/
def ready (s : State) : Bool := s.pfrmValid && calValid s

/-- The two sensor paths and what belongs to neither (R2, R229). -/
inductive Path where
  | humidity | pressure | system
  deriving DecidableEq, Repr

/-- The path whose state a register shows (R42); `STATUS` and `FAULT` collect bits of both. -/
def Reg.path : Reg → Path
  | .status | .fault => .system
  | .crc | .cnt | .hraw | .traw | .hum | .tempc | .tempf | .frm _ | .stg _ => .humidity
  | .calptr | .pcnt | .adcT | .adcP | .result _ | .pfrm _ | .pstg _ | .cal _ | .coef _ => .pressure

/-- The path a command works on (R20, R229); a read of a reserved number works on neither. -/
def pathOf : Instr → Path
  | .nop => .system
  | .rd reg => match regOf reg with
    | some g => g.path
    | none => .system
  | .crcInit | .crcByte _ | .crcCheck _ | .hStatus _ | .hClear => .humidity
  | .calInit | .calByte _ | .pInit | .pByte _ | .pCommit | .convert => .pressure

/-- The two states agree on the humidity path: the elements of the CRC and humidity units (R20). -/
abbrev SameHumidity (s t : State) : Prop :=
  t.crc = s.crc ∧ t.cnt = s.cnt ∧ t.stg = s.stg ∧ t.frm = s.frm ∧ t.retry = s.retry

/-- The two states agree on the results of the pressure path (R38, R39). -/
abbrev SameResults (s t : State) : Prop :=
  t.tfine = s.tfine ∧ t.tcomp = s.tcomp ∧ t.pcomp = s.pcomp ∧ t.pzero = s.pzero

/-- The two states agree on the pressure path: the elements of the pressure unit (R20) and the configuration it reads. -/
abbrev SamePressure (s t : State) : Prop :=
  t.cal = s.cal ∧ t.calptr = s.calptr ∧ t.pstg = s.pstg ∧ t.pcnt = s.pcnt ∧ t.pfrm = s.pfrm ∧
    t.pfrmValid = s.pfrmValid ∧ t.convNeeded = s.convNeeded ∧ t.pHasData = s.pHasData ∧ SameResults s t ∧
    t.calUnsigned = s.calUnsigned

end Sys2Proof.Machine
end

