-- ==== Sys2Proof/Certificates/Slice0/Obligations.lean ====
section
/-! DEFINITION. The statements about this model, for the provers. `rsps` is the model's record of R82's responses (log entry 4),
`inputs` its queue of what the host presents (log entries 2 and 3). `FAULT` masks are written as numbers: 1 ILLEGAL, 2 BADLEN,
4 LOCKED, 8 NODATA, 16 OVF (R41). -/

open Sys2Proof Sys2Proof.Machine

/-! ### Encoding and the step -/

/-- Words written out from R84 (vectors V60 to V75 of file 95). A sanity statement. -/
def Obligations.SampleWordsDecode : Prop :=
  decode 0x0000 = .ok .nop ∧ decode 0x0114 = .ok (.rd 0x14) ∧ decode 0x01FF = .ok (.rd 0xFF) ∧
  decode 0x1000 = .ok .crcInit ∧ decode 0x11FF = .ok (.crcByte 0xFF) ∧ decode 0x1200 = .ok (.crcCheck 0x00) ∧
  decode 0x2098 = .ok (.hStatus 0x98) ∧ decode 0x2100 = .ok .hClear ∧
  decode 0x3000 = .ok .calInit ∧ decode 0x31A5 = .ok (.calByte 0xA5) ∧
  decode 0x4000 = .ok .pInit ∧ decode 0x4142 = .ok (.pByte 0x42) ∧ decode 0x4200 = .ok .pCommit ∧
  decode 0x5000 = .ok .convert ∧
  decode 0x1080 = .error (.nonzeroArg 0x10 0x80) ∧ decode 0x2200 = .error (.unassignedOp 0x22)

/-- Decoding an encoded instruction gives it back, every operand at every value (file 30, R80 to R85). -/
def Obligations.DecodeOfEncodeIsTheInstruction : Prop := ∀ i : Instr, decode (encode i) = .ok i

/-- Each word has one meaning: a word that decodes is the word of what it decodes to (file 30, R80 to R85). -/
def Obligations.EncodeOfDecodeIsTheWord : Prop := ∀ (w : CmdWord) (i : Instr), decode w = .ok i → encode i = w

/-- R84: the thirteen rows with format, match and mask; a word is the instruction of a row iff `w AND mask = match`; the rows
do not overlap. -/
def Obligations.OpcodeMapRowsAreExactAndDisjoint : Prop :=
  opcodeTable.map (fun r => (r.mnemonic, (r.build 0).format, r.pattern, r.mask)) =
    [("NOP", .z, 0x0000, 0xFFFF), ("RD", .r, 0x0100, 0xFF00), ("CRC.INIT", .z, 0x1000, 0xFFFF),
      ("CRC.BYTE", .b, 0x1100, 0xFF00), ("CRC.CHECK", .b, 0x1200, 0xFF00), ("H.STATUS", .b, 0x2000, 0xFF00),
      ("H.CLEAR", .z, 0x2100, 0xFFFF), ("CAL.INIT", .z, 0x3000, 0xFFFF), ("CAL.BYTE", .b, 0x3100, 0xFF00),
      ("P.INIT", .z, 0x4000, 0xFFFF), ("P.BYTE", .b, 0x4100, 0xFF00), ("P.COMMIT", .z, 0x4200, 0xFFFF),
      ("CONVERT", .z, 0x5000, 0xFFFF)] ∧
  opcodeTable.Pairwise (fun a b => ∀ w : CmdWord, ¬(w &&& a.mask = a.pattern ∧ w &&& b.mask = b.pattern)) ∧
  ∀ (w : CmdWord) (i : Instr),
    decode w = .ok i ↔ ∃ r ∈ opcodeTable, w &&& r.mask = r.pattern ∧ i = r.build (w.extractLsb' 0 8)

/-- R85: decoding from `op = cmd[15:8]` and `arg = cmd[7:0]` alone. The seven Z opcodes take `arg = 0` only, the six B or R
opcodes take every `arg`, every other `op` is illegal. -/
def Obligations.DecodingFollowsOpAndArg : Prop :=
  ∀ w : CmdWord, ∀ op arg : Byte, w.toNat = op.toNat * 256 + arg.toNat →
    (arg = 0 → op = 0x00 → decode w = .ok .nop) ∧ (arg = 0 → op = 0x10 → decode w = .ok .crcInit) ∧
    (arg = 0 → op = 0x21 → decode w = .ok .hClear) ∧ (arg = 0 → op = 0x30 → decode w = .ok .calInit) ∧
    (arg = 0 → op = 0x40 → decode w = .ok .pInit) ∧ (arg = 0 → op = 0x42 → decode w = .ok .pCommit) ∧
    (arg = 0 → op = 0x50 → decode w = .ok .convert) ∧
    (op = 0x01 → decode w = .ok (.rd arg)) ∧ (op = 0x11 → decode w = .ok (.crcByte arg)) ∧
    (op = 0x12 → decode w = .ok (.crcCheck arg)) ∧ (op = 0x20 → decode w = .ok (.hStatus arg)) ∧
    (op = 0x31 → decode w = .ok (.calByte arg)) ∧ (op = 0x41 → decode w = .ok (.pByte arg)) ∧
    (arg ≠ 0 → op ∈ [0x00, 0x10, 0x21, 0x30, 0x40, 0x42, 0x50] → ∃ e, decode w = .error e) ∧
    (op ∉ [0x00, 0x10, 0x21, 0x30, 0x40, 0x42, 0x50, 0x01, 0x11, 0x12, 0x20, 0x31, 0x41] → ∃ e, decode w = .error e)

/-- R88: an illegal word changes no state but `FAULT.ILLEGAL`, responds (ILLEGAL, 0), and the next command executes normally;
of the 256 times 256 words, counted opcode by opcode, 63993 are illegal. -/
def Obligations.IllegalWordSetsOneStickyBit : Prop :=
  (∀ (s : State) (w : CmdWord) (rest : List Input), s.inputs = .cmd w :: rest →
    (∀ r ∈ opcodeTable, w &&& r.mask ≠ r.pattern) →
    ∃ t, step s = .next t ∧
      t = { s with inputs := rest, fault := s.fault ||| 1, rsps := s.rsps ++ [⟨.illegal, 0⟩] } ∧
      ∀ w' rest' i, rest = .cmd w' :: rest' → decode w' = .ok i → step t = exec i { t with inputs := rest' }) ∧
  ((List.range 256).map (fun op => (List.range 256).countP (fun arg =>
    opcodeTable.all (fun r => BitVec.ofNat 16 (op * 256 + arg) &&& r.mask != r.pattern)))).sum = 63993

/-- When the next input is a word that decodes to `i`, the step is `exec i` at the state with that input taken (R9, R10). -/
def Obligations.StepRunsTheDecodedCommand : Prop :=
  ∀ (s : State) (w : CmdWord) (rest : List Input) (i : Instr), s.inputs = .cmd w :: rest → decode w = .ok i →
    step s = exec i { s with inputs := rest }

/-- `step` is total (R10): it never stops; it takes exactly one input, or changes nothing when none is presented (the model's
queue, log entry 2); the configuration never changes. -/
def Obligations.StepIsTotal : Prop :=
  (∀ s : State, ∃ t, step s = .next t) ∧
  (∀ s : State, s.inputs = [] → step s = .next s) ∧
  ∀ (s t : State) (i : Input) (rest : List Input), s.inputs = i :: rest → step s = .next t →
    t.inputs = rest ∧ t.calUnsigned = s.calUnsigned

/-! ### Reset -/

/-- R240: hardware reset puts every element at its reset value, with the derived values that follow, and it is the only event
that clears `FAULT`, unlocks `CAL` or clears `PFRMVALID`. -/
def Obligations.HardwareResetValuesAndItsPrivileges : Prop :=
  (∀ (s : State) (rest : List Input), s.inputs = .rst :: rest → ∃ t, step s = .next t ∧
    t.crc = 0xFF ∧ t.cnt = 0 ∧ (∀ k : Fin 6, t.stg[k] = 0) ∧ (∀ k : Fin 7, t.frm[k] = 0) ∧ t.retry = false ∧
    (∀ k : Fin 26, t.cal[k] = 0) ∧ t.calptr = 0 ∧ (∀ k : Fin 6, t.pstg[k] = 0) ∧ t.pcnt = 0 ∧
    (∀ k : Fin 6, t.pfrm[k] = 0) ∧ t.pfrmValid = false ∧ t.convNeeded = false ∧ t.pHasData = false ∧ t.tfine = 0 ∧
    t.tcomp = 0 ∧ t.pcomp = 0 ∧ t.pzero = false ∧ t.fault = 0 ∧
    calValid t = false ∧ statusWord t = 0 ∧ hraw t.frm = 0 ∧ traw t.frm = 0 ∧ hum t.frm = 0 ∧ tempC t.frm = -52428800 ∧
    tempF t.frm = -60817408 ∧ adcT t.pfrm = 0 ∧ adcP t.pfrm = 0 ∧ ∀ k : Fin 12, coef t.calUnsigned t.cal k = 0) ∧
  ∀ s t : State, step s = .next t → s.inputs.head? ≠ some .rst →
    t.fault &&& s.fault = s.fault ∧ (s.calptr.val = 26 → t.calptr.val = 26 ∧ t.cal = s.cal) ∧
    (s.pfrmValid = true → t.pfrmValid = true)

/-- `State.reset` itself holds the values of R20's reset column. -/
def Obligations.ResetStateHoldsTheResetColumn : Prop :=
  State.reset.crc = 0xFF ∧ State.reset.cnt = 0 ∧ (∀ k : Fin 6, State.reset.stg[k] = 0) ∧
  (∀ k : Fin 7, State.reset.frm[k] = 0) ∧ State.reset.retry = false ∧ (∀ k : Fin 26, State.reset.cal[k] = 0) ∧
  State.reset.calptr = 0 ∧ (∀ k : Fin 6, State.reset.pstg[k] = 0) ∧ State.reset.pcnt = 0 ∧
  (∀ k : Fin 6, State.reset.pfrm[k] = 0) ∧ State.reset.pfrmValid = false ∧ State.reset.convNeeded = false ∧
  State.reset.pHasData = false ∧ State.reset.tfine = 0 ∧ State.reset.tcomp = 0 ∧ State.reset.pcomp = 0 ∧
  State.reset.pzero = false ∧ State.reset.fault = 0

/-! ### The commands, one by one -/

/-- R190. -/
def Obligations.NopOnlyResponds : Prop :=
  decode 0x0000 = .ok .nop ∧ ∀ s : State, exec .nop s = .next { s with rsps := s.rsps ++ [⟨.ok, 0⟩] }

/-- R102. -/
def Obligations.CrcInitRestartsTheFrame : Prop :=
  decode 0x1000 = .ok .crcInit ∧
  ∀ s : State, exec .crcInit s = .next { s with crc := 0xFF, cnt := 0, rsps := s.rsps ++ [⟨.ok, 0⟩] }

/-- R103: a byte is stored at `CNT` and shifted into the CRC, or, from the seventh on, refused with `BADLEN`. -/
def Obligations.CrcByteStoresOrOverruns : Prop :=
  ∀ b : Byte, decode (0x1100 ||| b.setWidth 16) = .ok (.crcByte b) ∧ ∀ s : State,
    (s.cnt.val < 6 → ∃ n : Fin 8, n.val = s.cnt.val + 1 ∧ exec (.crcByte b) s = .next { s with
      stg := Vector.ofFn (fun k => if k.val = s.cnt.val then b else s.stg[k]), crc := crcStep s.crc b, cnt := n,
      rsps := s.rsps ++ [⟨.ok, 0⟩] }) ∧
    (6 ≤ s.cnt.val → exec (.crcByte b) s = .next { s with
      cnt := 7, fault := s.fault ||| 2, rsps := s.rsps ++ [⟨.badlen, 0⟩] })

/-- R104: refused on a wrong count, committed whole on a match, discarded on a mismatch; the CRC unit is back in its initial
state every time; a bus stuck at 0x00 or 0xFF fails the check. -/
def Obligations.CrcCheckCommitsOrDiscards : Prop :=
  (∀ b : Byte, decode (0x1200 ||| b.setWidth 16) = .ok (.crcCheck b) ∧ ∀ s : State, ∀ info : Data,
    info.toNat = s.crc.toNat * 256 + b.toNat →
    (s.cnt.val ≠ 6 → exec (.crcCheck b) s = .next { s with
      crc := 0xFF, cnt := 0, fault := s.fault ||| 2, rsps := s.rsps ++ [⟨.badlen, info⟩] }) ∧
    (s.cnt.val = 6 → s.crc = b → exec (.crcCheck b) s = .next { s with
      frm := #v[s.stg[0], s.stg[1], s.stg[2], s.stg[3], s.stg[4], s.stg[5], b], retry := false, crc := 0xFF, cnt := 0,
      rsps := s.rsps ++ [⟨.ok, info⟩] }) ∧
    (s.cnt.val = 6 → s.crc ≠ b → exec (.crcCheck b) s = .next { s with
      retry := true, crc := 0xFF, cnt := 0, rsps := s.rsps ++ [⟨.mismatch, info⟩] })) ∧
  crc8 [0, 0, 0, 0, 0, 0] = 0x6A ∧ crc8 [0xFF, 0xFF, 0xFF, 0xFF, 0xFF, 0xFF] = 0x22

/-- R120. -/
def Obligations.HStatusWritesByteZero : Prop :=
  ∀ b : Byte, decode (0x2000 ||| b.setWidth 16) = .ok (.hStatus b) ∧ ∀ s : State,
    exec (.hStatus b) s = .next { s with
      frm := #v[b, s.frm[1], s.frm[2], s.frm[3], s.frm[4], s.frm[5], s.frm[6]], rsps := s.rsps ++ [⟨.ok, 0⟩] }

/-- R121. -/
def Obligations.HClearZeroesTheFrame : Prop :=
  decode 0x2100 = .ok .hClear ∧ ∀ s : State, exec .hClear s = .next { s with
    frm := #v[0, 0, 0, 0, 0, 0, 0], retry := false, crc := 0xFF, cnt := 0, rsps := s.rsps ++ [⟨.ok, 0⟩] }

/-- R140. -/
def Obligations.CalInitRestartsUntilLocked : Prop :=
  decode 0x3000 = .ok .calInit ∧ ∀ s : State,
    (s.calptr.val = 26 → exec .calInit s = .next { s with
      fault := s.fault ||| 4, rsps := s.rsps ++ [⟨.locked, 0⟩] }) ∧
    (s.calptr.val ≠ 26 → exec .calInit s = .next { s with calptr := 0, rsps := s.rsps ++ [⟨.ok, 0⟩] })

/-- R141: a byte is stored at `CALPTR`, which advances, until the 26th byte locks the store. -/
def Obligations.CalByteStoresUntilLocked : Prop :=
  ∀ b : Byte, decode (0x3100 ||| b.setWidth 16) = .ok (.calByte b) ∧ ∀ s : State,
    (s.calptr.val = 26 → exec (.calByte b) s = .next { s with
      fault := s.fault ||| 4, rsps := s.rsps ++ [⟨.locked, 0⟩] }) ∧
    (s.calptr.val ≠ 26 → ∃ n : Fin 27, n.val = s.calptr.val + 1 ∧ exec (.calByte b) s = .next { s with
      cal := Vector.ofFn (fun k => if k.val = s.calptr.val then b else s.cal[k]), calptr := n,
      rsps := s.rsps ++ [⟨.ok, 0⟩] })

/-- R145. -/
def Obligations.PInitRestartsTheRead : Prop :=
  decode 0x4000 = .ok .pInit ∧ ∀ s : State, exec .pInit s = .next { s with pcnt := 0, rsps := s.rsps ++ [⟨.ok, 0⟩] }

/-- R146. -/
def Obligations.PByteStoresOrOverruns : Prop :=
  ∀ b : Byte, decode (0x4100 ||| b.setWidth 16) = .ok (.pByte b) ∧ ∀ s : State,
    (s.pcnt.val < 6 → ∃ n : Fin 8, n.val = s.pcnt.val + 1 ∧ exec (.pByte b) s = .next { s with
      pstg := Vector.ofFn (fun k => if k.val = s.pcnt.val then b else s.pstg[k]), pcnt := n,
      rsps := s.rsps ++ [⟨.ok, 0⟩] }) ∧
    (6 ≤ s.pcnt.val → exec (.pByte b) s = .next { s with
      pcnt := 7, fault := s.fault ||| 2, rsps := s.rsps ++ [⟨.badlen, 0⟩] })

/-- R147. -/
def Obligations.PCommitReplacesTheFrame : Prop :=
  decode 0x4200 = .ok .pCommit ∧ ∀ s : State,
    (s.pcnt.val ≠ 6 → exec .pCommit s = .next { s with
      pcnt := 0, fault := s.fault ||| 2, rsps := s.rsps ++ [⟨.badlen, 0⟩] }) ∧
    (s.pcnt.val = 6 → exec .pCommit s = .next { s with
      pfrm := #v[s.pstg[0], s.pstg[1], s.pstg[2], s.pstg[3], s.pstg[4], s.pstg[5]], pfrmValid := true, convNeeded := true,
      pHasData := true, pcnt := 0, rsps := s.rsps ++ [⟨.ok, 0⟩] })

/-- R170: refused without inputs; otherwise the conversion's results are written, overflowing or not, whether or not
`CONVNEEDED` is set; in a state that meets R45's invariant with `CONVNEEDED = 0` it writes the values that are there; and the
rule's example. -/
def Obligations.ConvertWritesTheConversion : Prop :=
  decode 0x5000 = .ok .convert ∧ ∀ s : State,
    (s.pfrmValid = false ∨ s.calptr.val ≠ 26 → exec .convert s = .next { s with
      fault := s.fault ||| 8, rsps := s.rsps ++ [⟨.nodata, 0⟩] }) ∧
    (s.pfrmValid = true → s.calptr.val = 26 →
      ∀ r, r = convert (coefs s.calUnsigned s.cal) (adcT s.pfrm).toNat (adcP s.pfrm).toNat →
        exec .convert s = .next { s with
          tfine := BitVec.ofInt 32 r.tf, tcomp := BitVec.ofInt 32 r.tc, pcomp := r.pc, pzero := r.pz, convNeeded := false,
          fault := if r.ov then s.fault ||| 16 else s.fault, rsps := s.rsps ++ [⟨if r.ov then .ovf else .ok, 0⟩] }) ∧
    (Coherent s → s.pfrmValid = true → s.convNeeded = false → ∃ t, exec .convert s = .next t ∧
      t = { s with fault := t.fault, rsps := t.rsps }) ∧
    (s.pfrmValid = true → s.calptr.val = 26 → adcT s.pfrm = 519888 → adcP s.pfrm = 415148 →
      coefs s.calUnsigned s.cal = ⟨27504, 26435, -1000, 36477, -10685, 3024, 2855, 140, -7, 15500, -14600, 6000⟩ →
      exec .convert s = .next { s with
        tfine := 128422, tcomp := 2508, pcomp := 25767233, pzero := false, convNeeded := false,
        rsps := s.rsps ++ [⟨.ok, 0⟩] })

/-- `RD` of every register without side effect, number by number, and of every reserved number (R42, R193, R213): the
register's value with `OK` and nothing else changed, or `ILLEGAL` with its sticky bit. 79 of the 256 numbers name a register. -/
def Obligations.ReadMapValues : Prop :=
  (∀ s : State, ∀ reads : Byte → Data → Prop,
    (∀ r d, reads r d ↔ exec (.rd r) s = .next { s with rsps := s.rsps ++ [⟨.ok, d⟩] }) →
    reads 0x00 (statusWord s) ∧ reads 0x01 (s.fault.setWidth 32) ∧ reads 0x02 (s.crc.setWidth 32) ∧
    reads 0x03 (BitVec.ofNat 32 s.cnt.val) ∧ reads 0x04 (BitVec.ofNat 32 s.calptr.val) ∧
    reads 0x05 (BitVec.ofNat 32 s.pcnt.val) ∧
    reads 0x08 ((hraw s.frm).setWidth 32) ∧ reads 0x09 ((traw s.frm).setWidth 32) ∧
    reads 0x0A (BitVec.ofInt 32 ((hraw s.frm).toNat * 100)) ∧
    reads 0x0B (BitVec.ofInt 32 ((traw s.frm).toNat * 200 - 52428800)) ∧
    reads 0x0C (BitVec.ofInt 32 ((traw s.frm).toNat * 360 - 60817408)) ∧
    reads 0x10 ((adcT s.pfrm).setWidth 32) ∧ reads 0x11 ((adcP s.pfrm).setWidth 32) ∧
    (∀ k : Fin 7, reads (BitVec.ofNat 8 (0x20 + k.val)) (s.frm[k].setWidth 32)) ∧
    (∀ k : Fin 6, reads (BitVec.ofNat 8 (0x28 + k.val)) (s.stg[k].setWidth 32)) ∧
    (∀ k : Fin 6, reads (BitVec.ofNat 8 (0x30 + k.val)) (s.pfrm[k].setWidth 32)) ∧
    (∀ k : Fin 6, reads (BitVec.ofNat 8 (0x38 + k.val)) (s.pstg[k].setWidth 32)) ∧
    (∀ k : Fin 26, reads (BitVec.ofNat 8 (0x40 + k.val)) (s.cal[k].setWidth 32)) ∧
    (∀ k : Fin 12, reads (BitVec.ofNat 8 (0x60 + k.val)) (BitVec.ofInt 32 (coef s.calUnsigned s.cal k)))) ∧
  (∀ (s : State) (r : Byte), (r ∈ [0x06, 0x07, 0x0D, 0x0E, 0x0F, 0x27, 0x2E, 0x2F, 0x36, 0x37, 0x3E, 0x3F] ∨
      (0x15 ≤ r.toNat ∧ r.toNat ≤ 0x1F) ∨ (0x5A ≤ r.toNat ∧ r.toNat ≤ 0x5F) ∨ 0x6C ≤ r.toNat) →
    exec (.rd r) s = .next { s with fault := s.fault ||| 1, rsps := s.rsps ++ [⟨.illegal, 0⟩] }) ∧
  (List.range 256).countP (fun n => (regOf (BitVec.ofNat 8 n)).isSome) = 79

/-- R196: `RD` of `TFINE`, `TCOMP` or `PCOMP`, refused, converting first, or cached. -/
def Obligations.ResultReadConvertsLazily : Prop :=
  ∀ (s : State) (n : Byte) (q : ResultReg),
    (n = 0x12 ∧ q = .tfine) ∨ (n = 0x13 ∧ q = .tcomp) ∨ (n = 0x14 ∧ q = .pcomp) →
    (s.pfrmValid = false ∨ (s.convNeeded = true ∧ s.calptr.val ≠ 26) → exec (.rd n) s = .next { s with
      fault := s.fault ||| 8, rsps := s.rsps ++ [⟨.nodata, 0⟩] }) ∧
    (s.pfrmValid = true → s.convNeeded = true → s.calptr.val = 26 →
      ∀ r, r = convert (coefs s.calUnsigned s.cal) (adcT s.pfrm).toNat (adcP s.pfrm).toNat →
        exec (.rd n) s = .next { s with
          tfine := BitVec.ofInt 32 r.tf, tcomp := BitVec.ofInt 32 r.tc, pcomp := r.pc, pzero := r.pz, convNeeded := false,
          pHasData := if n = 0x14 then false else s.pHasData, fault := if r.ov then s.fault ||| 16 else s.fault,
          rsps := s.rsps ++ [⟨if r.ov then .ovf else .ok,
            if n = 0x12 then BitVec.ofInt 32 r.tf else if n = 0x13 then BitVec.ofInt 32 r.tc else r.pc⟩] }) ∧
    (s.pfrmValid = true → s.convNeeded = false → exec (.rd n) s = .next { s with
      pHasData := if n = 0x14 then false else s.pHasData,
      rsps := s.rsps ++ [⟨.ok, if n = 0x12 then s.tfine else if n = 0x13 then s.tcomp else s.pcomp⟩] })

/-! ### What commands change, and what they leave -/

/-- The frame of every command, from R20's column "written by": an element changes only under the commands listed there. No
command writes the configuration or the inputs still to come. -/
def Obligations.OnlyListedWritersChangeAnElement : Prop :=
  ∀ (i : Instr) (s t : State), exec i s = .next t →
    ((i ≠ .crcInit ∧ (∀ b, i ≠ .crcByte b) ∧ (∀ b, i ≠ .crcCheck b) ∧ i ≠ .hClear) → t.crc = s.crc ∧ t.cnt = s.cnt) ∧
    ((∀ b, i ≠ .crcByte b) → t.stg = s.stg) ∧
    (((∀ b, i ≠ .crcCheck b) ∧ (∀ b, i ≠ .hStatus b) ∧ i ≠ .hClear) → t.frm = s.frm) ∧
    (((∀ b, i ≠ .crcCheck b) ∧ i ≠ .hClear) → t.retry = s.retry) ∧
    ((∀ b, i ≠ .calByte b) → t.cal = s.cal) ∧
    ((i ≠ .calInit ∧ ∀ b, i ≠ .calByte b) → t.calptr = s.calptr) ∧
    ((∀ b, i ≠ .pByte b) → t.pstg = s.pstg) ∧
    ((i ≠ .pInit ∧ (∀ b, i ≠ .pByte b) ∧ i ≠ .pCommit) → t.pcnt = s.pcnt) ∧
    (i ≠ .pCommit → t.pfrm = s.pfrm ∧ t.pfrmValid = s.pfrmValid) ∧
    ((i ≠ .pCommit ∧ i ≠ .convert ∧ i ≠ .rd 0x12 ∧ i ≠ .rd 0x13 ∧ i ≠ .rd 0x14) → t.convNeeded = s.convNeeded) ∧
    ((i ≠ .pCommit ∧ i ≠ .rd 0x14) → t.pHasData = s.pHasData) ∧
    ((i ≠ .convert ∧ i ≠ .rd 0x12 ∧ i ≠ .rd 0x13 ∧ i ≠ .rd 0x14) → SameResults s t) ∧
    t.calUnsigned = s.calUnsigned ∧ t.inputs = s.inputs

/-- One response per command; the code alone says which `FAULT` bit is set (bit `code - 2` for codes 2 to 6, none for 0 and 1),
so no command sets two; no bit is cleared; the data is 0 except for `RD` and `CRC.CHECK` (R82, R211, R212, R221). -/
def Obligations.OneResponseAndItsFaultBit : Prop :=
  ∀ (i : Instr) (s t : State), exec i s = .next t → ∃ r : Response, t.rsps = s.rsps ++ [r] ∧
    (r.code.bits.toNat < 2 → t.fault = s.fault) ∧
    (2 ≤ r.code.bits.toNat → t.fault = s.fault ||| (1#5 <<< (r.code.bits.toNat - 2))) ∧
    ((∀ n, i ≠ .rd n) → (∀ b, i ≠ .crcCheck b) → r.data = 0)

/-- What the premise `FAULT = 0` at the end of a run is worth (R212): the bits are sticky, so it was 0 at the start, `fault_any`
is low (R93), and every command of the run was answered with `OK` or `MISMATCH`. -/
def Obligations.FaultFreeRunsReportedNoFault : Prop :=
  ∀ (ws : List CmdWord) (s t : State), s.inputs = ws.map .cmd →
    Host.Core.run Sys2Proof.core ws.length s = .next t → faultFree t = true →
    faultFree s = true ∧ faultAny t = false ∧ ∃ rs : List Response, t.rsps = s.rsps ++ rs ∧ rs.length = ws.length ∧
      ∀ r ∈ rs, r.code = .ok ∨ r.code = .mismatch

/-- The humidity frame changes only as a whole, by a match or a clear, or in byte 0 alone (R26, R45 item 6). -/
def Obligations.HumidityFrameNeverTorn : Prop :=
  ∀ (i : Instr) (s t : State), exec i s = .next t → t.frm = s.frm ∨
    (∃ b, i = .crcCheck b ∧ s.cnt.val = 6 ∧ s.crc = b ∧ (∀ k : Fin 6, t.frm[k.val] = s.stg[k]) ∧ t.frm[6] = b) ∨
    (∃ b, i = .hStatus b ∧ t.frm[0] = b ∧ ∀ k : Fin 7, k ≠ 0 → t.frm[k] = s.frm[k]) ∨
    (i = .hClear ∧ ∀ k : Fin 7, t.frm[k] = 0)

/-- R29: `RETRY` is the outcome of the most recent full-length `CRC.CHECK`; `H.CLEAR` and reset set it to 0; nothing else
changes it. -/
def Obligations.RetryIsTheLastFullCheck : Prop :=
  (∀ (i : Instr) (s t : State), exec i s = .next t →
    (∀ b, i = .crcCheck b → s.cnt.val = 6 → (t.retry = true ↔ s.crc ≠ b)) ∧
    (∀ b, i = .crcCheck b → s.cnt.val ≠ 6 → t.retry = s.retry) ∧
    (i = .hClear → t.retry = false) ∧
    ((∀ b, i ≠ .crcCheck b) → i ≠ .hClear → t.retry = s.retry)) ∧
  State.reset.retry = false

/-- R32: `CALVALID` is `CALPTR = 26`; once it is 1 no command changes `CAL` or `CALPTR`; while it is 0 the compensation
refuses to run, as a command and as the lazy conversion of a read; it is 0 at reset. -/
def Obligations.CalibrationLocksWhole : Prop :=
  (∀ s : State, calValid s = true ↔ s.calptr.val = 26) ∧
  (∀ (i : Instr) (s t : State), calValid s = true → exec i s = .next t → t.cal = s.cal ∧ t.calptr = s.calptr) ∧
  (∀ s : State, calValid s = false → exec .convert s = .next { s with
    fault := s.fault ||| 8, rsps := s.rsps ++ [⟨.nodata, 0⟩] }) ∧
  (∀ (s : State) (n : Byte), calValid s = false → s.convNeeded = true → n = 0x12 ∨ n = 0x13 ∨ n = 0x14 →
    exec (.rd n) s = .next { s with fault := s.fault ||| 8, rsps := s.rsps ++ [⟨.nodata, 0⟩] }) ∧
  calValid State.reset = false

/-- R35, R36, R37: exactly what sets and what clears `PFRMVALID`, `CONVNEEDED` and `PHASDATA`, for every command; the
invariant of R36; all 0 at reset. -/
def Obligations.PressureFlagsFollowTheirEvents : Prop :=
  (∀ (i : Instr) (s t : State), exec i s = .next t →
    (t.pfrmValid = true ↔ s.pfrmValid = true ∨ (i = .pCommit ∧ s.pcnt.val = 6)) ∧
    (t.convNeeded = true ↔ (i = .pCommit ∧ s.pcnt.val = 6) ∨ (s.convNeeded = true ∧
      ¬((i = .convert ∨ i = .rd 0x12 ∨ i = .rd 0x13 ∨ i = .rd 0x14) ∧ s.pfrmValid = true ∧ s.calptr.val = 26))) ∧
    (t.pHasData = true ↔ (i = .pCommit ∧ s.pcnt.val = 6) ∨ (s.pHasData = true ∧
      ¬(i = .rd 0x14 ∧ s.pfrmValid = true ∧ (s.convNeeded = true → s.calptr.val = 26)))) ∧
    ((s.convNeeded = true → s.pfrmValid = true) → t.convNeeded = true → t.pfrmValid = true)) ∧
  State.reset.pfrmValid = false ∧ State.reset.convNeeded = false ∧ State.reset.pHasData = false

/-- R197: a successful `RD PCOMP` clears `PHASDATA` and a second one returns the same value with `OK`; `RD TCOMP`, `RD TFINE`
and `RD STATUS` never change it; a refused `RD PCOMP` consumes nothing. -/
def Obligations.PressureReadConsumesHasData : Prop :=
  (∀ s t : State, exec (.rd 0x14) s = .next t → ∀ r : Response, t.rsps = s.rsps ++ [r] →
    (r.code = .nodata → t.pHasData = s.pHasData) ∧
    (r.code ≠ .nodata → t.pHasData = false ∧
      exec (.rd 0x14) t = .next { t with rsps := t.rsps ++ [⟨.ok, r.data⟩] })) ∧
  ∀ (n : Byte) (s t : State), n = 0x12 ∨ n = 0x13 ∨ n = 0x00 → exec (.rd n) s = .next t → t.pHasData = s.pHasData

/-- R68: exactly 0x12, 0x13 and 0x14 have a side effect on read: each may run a conversion, 0x14 clears `PHASDATA`. Reading one of them twice returns the same value; every other
read leaves the state as it is but for the response and, for a reserved number, the sticky bit, and is idempotent. -/
def Obligations.OnlyResultReadsHaveSideEffects : Prop :=
  (∀ n : Byte, n = 0x12 ∨ n = 0x13 ∨ n = 0x14 →
    ∃ s t : State, exec (.rd n) s = .next t ∧ s.convNeeded = true ∧ t.convNeeded = false) ∧
  (∃ s t : State, exec (.rd 0x14) s = .next t ∧ s.pHasData = true ∧ t.pHasData = false) ∧
  (∀ (n : Byte) (s t : State), n ≠ 0x12 → n ≠ 0x13 → n ≠ 0x14 → exec (.rd n) s = .next t →
    (∃ r : Response, t = { s with fault := if regOf n = none then s.fault ||| 1 else s.fault, rsps := s.rsps ++ [r] }) ∧
    ∀ u, exec (.rd n) t = .next u → u = { t with rsps := u.rsps }) ∧
  ∀ (n : Byte) (s t u : State), n = 0x12 ∨ n = 0x13 ∨ n = 0x14 → exec (.rd n) s = .next t → exec (.rd n) t = .next u →
    ∃ a b : Response, t.rsps = s.rsps ++ [a] ∧ u.rsps = t.rsps ++ [b] ∧ a.data = b.data ∧ SameResults t u ∧
      u.convNeeded = t.convNeeded ∧ u.pHasData = t.pHasData

/-! ### Invariants -/

/-- The invariant of R45 (items 3 and 4) holds at reset. -/
def Obligations.InvariantHoldsAtReset : Prop := Coherent State.reset

/-- Every step keeps the invariant of R45 (items 3 and 4), from every state that meets it. -/
def Obligations.EveryStepKeepsTheInvariant : Prop := ∀ s t : State, Coherent s → step s = .next t → Coherent t

/-- R45, all six items, in every state reachable from reset, for either value of `CAL_UNSIGNED` and any inputs. -/
def Obligations.ReachableStatesMeetAllSixItems : Prop :=
  ∀ s : State, Reachable s →
    (s.cnt.val ≤ 7 ∧ s.pcnt.val ≤ 7) ∧ s.calptr.val ≤ 26 ∧
    (s.convNeeded = true → s.pfrmValid = true) ∧ (s.pHasData = true → s.pfrmValid = true) ∧
    (s.pfrmValid = true → s.convNeeded = false → calValid s = true ∧
      ∀ r, r = convert (coefs s.calUnsigned s.cal) (adcT s.pfrm).toNat (adcP s.pfrm).toNat →
        s.tfine = BitVec.ofInt 32 r.tf ∧ s.tcomp = BitVec.ofInt 32 r.tc ∧ s.pcomp = r.pc ∧ s.pzero = r.pz) ∧
    ∀ (w : CmdWord) (rest : List Input) (t : State), s.inputs = .cmd w :: rest → step s = .next t →
      t.fault &&& s.fault = s.fault ∧
      ((∀ k : Fin 7, k ≠ 0 → t.frm[k] = s.frm[k]) ∨ (∀ k : Fin 7, t.frm[k] = 0) ∨
        ((∀ k : Fin 6, t.frm[k.val] = s.stg[k]) ∧ t.frm[6] = w.extractLsb' 0 8))

/-- The value a read of a result register returns is never stale (R196 corner cases (a) and (c)): in every state that meets
R45's invariant, a read that is not refused returns the conversion of the current calibration and frame. -/
def Obligations.ResultReadIsNeverStale : Prop :=
  ∀ (s : State) (n : Byte), Coherent s → ready s = true → n = 0x12 ∨ n = 0x13 ∨ n = 0x14 →
    ∃ t, exec (.rd n) s = .next t ∧ ∃ code : ResultCode, t.rsps = s.rsps ++ [⟨code,
        if n = 0x12 then BitVec.ofInt 32 (conversionOf s).tf
        else if n = 0x13 then BitVec.ofInt 32 (conversionOf s).tc else (conversionOf s).pc⟩] ∧
      Coherent t ∧ t.convNeeded = false

/-- The two paths share nothing (R229): a command of one path, run in two states that agree on that path, gives the same
response, the same new fault bit and the same new state of that path, and never touches the other path. -/
def Obligations.PathsDoNotInterfere : Prop :=
  (∀ (i : Instr) (s s' : State), pathOf i = .humidity → SameHumidity s s' →
    ∃ t t' : State, ∃ r : Response, ∃ m : BitVec 5, exec i s = .next t ∧ exec i s' = .next t' ∧ SameHumidity t t' ∧
      t.rsps = s.rsps ++ [r] ∧ t'.rsps = s'.rsps ++ [r] ∧ t.fault = s.fault ||| m ∧ t'.fault = s'.fault ||| m ∧
      SamePressure s t ∧ SamePressure s' t') ∧
  ∀ (i : Instr) (s s' : State), pathOf i = .pressure → SamePressure s s' →
    ∃ t t' : State, ∃ r : Response, ∃ m : BitVec 5, exec i s = .next t ∧ exec i s' = .next t' ∧ SamePressure t t' ∧
      t.rsps = s.rsps ++ [r] ∧ t'.rsps = s'.rsps ++ [r] ∧ t.fault = s.fault ||| m ∧ t'.fault = s'.fault ||| m ∧
      SameHumidity s t ∧ SameHumidity s' t'

/-- Commands of different paths may be interleaved freely (R251): in either order they give the same responses and the same
state, but for the order in which the responses are recorded. -/
def Obligations.CommandsOfDifferentPathsCommute : Prop :=
  ∀ (i j : Instr) (s : State), pathOf i = .humidity → pathOf j = .pressure →
    ∃ t u t' u' : State, ∃ a b : Response, exec i s = .next t ∧ exec j t = .next u ∧ exec j s = .next t' ∧
      exec i t' = .next u' ∧ u.rsps = s.rsps ++ [a, b] ∧ u'.rsps = s.rsps ++ [b, a] ∧ u' = { u with rsps := u'.rsps }

/-! ### The CRC -/

/-- R101: `crc8` starts at 0xFF and takes the bytes in order; nothing is XORed in at the end. -/
def Obligations.CrcFoldsFromTheInitialValue : Prop :=
  crc8 [] = 0xFF ∧ ∀ (bs : List Byte) (b : Byte), crc8 (bs ++ [b]) = crcStep (crc8 bs) b

/-- R105: single-bit detection, linearity, a frame followed by its own CRC leaves 0, and dependence on `c XOR b` alone. -/
def Obligations.CrcLaws : Prop :=
  (∀ (before after : List Byte) (b : Byte) (k : Fin 8),
    crc8 (before ++ (b ^^^ (1#8 <<< k.val)) :: after) ≠ crc8 (before ++ b :: after)) ∧
  (∀ c1 c2 b1 b2 : Byte, crcStep (c1 ^^^ c2) (b1 ^^^ b2) = crcStep c1 b1 ^^^ crcStep c2 b2) ∧
  (∀ m : List Byte, crcStep (crc8 m) (crc8 m) = 0) ∧
  ∀ c b c' b' : Byte, c ^^^ b = c' ^^^ b' → crcStep c b = crcStep c' b'

/-- R106: the 256-entry table and the bit-serial 8-bit LFSR (each bit, most significant first, XORed with the bit shifted out)
are the same function; the first sixteen table entries. -/
def Obligations.CrcTableAndShiftRegisterAgree : Prop :=
  (∀ c b : Byte, crcStep c b = crcStep (c ^^^ b) 0) ∧
  (∀ c b : Byte, crcStep c b = (List.range 8).foldl
    (fun (x : Byte) (k : Nat) => if x.msb != b.getLsbD (7 - k) then (x <<< 1) ^^^ 0x31 else x <<< 1) c) ∧
  (List.range 16).map (fun n => crcStep (BitVec.ofNat 8 n) 0) =
    [0x00, 0x31, 0x62, 0x53, 0xC4, 0xF5, 0xA6, 0x97, 0xB9, 0x88, 0xDB, 0xEA, 0x7D, 0x4C, 0x1F, 0x2E]

/-- After `CRC.INIT` and up to six `CRC.BYTE`, `CRC` is the `crc8` of the bytes, `STG` holds them in arrival order before its
older bytes, and `CNT` is their number (R23, R24, R25). -/
def Obligations.StreamedBytesAccumulate : Prop :=
  ∀ (s : State) (bs : List Byte), bs.length ≤ 6 →
    ∃ t : State, Host.Core.run Sys2Proof.core (bs.length + 1) (present (.crcInit :: bs.map .crcByte) s) = .next t ∧
      t.crc = crc8 bs ∧ t.cnt.val = bs.length ∧
      (∀ (k : Nat) (hk : k < bs.length) (h6 : k < 6), t.stg[k] = bs[k]) ∧
      (∀ k : Fin 6, bs.length ≤ k.val → t.stg[k] = s.stg[k]) ∧
      t = { s with crc := t.crc, cnt := t.cnt, stg := t.stg, rsps := s.rsps ++ List.replicate (bs.length + 1) ⟨.ok, 0⟩ }

/-- `HFRAME` (R92) from any state: the frame is published whole iff its CRC byte is the `crc8` of its six data bytes, and
otherwise the old frame stands and a retry is asked for (R104). -/
def Obligations.HumidityFrameIsPublishedWholeOrNotAtAll : Prop :=
  ∀ (s : State) (d : Vector Byte 6) (c : Byte) (info : Data), info.toNat = (crc8 d.toList).toNat * 256 + c.toNat →
    Host.Core.run Sys2Proof.core 8 (present (Pseudo.hframe d c).expand s) = .next { s with
      crc := 0xFF, cnt := 0, stg := d,
      frm := if crc8 d.toList = c then #v[d[0], d[1], d[2], d[3], d[4], d[5], c] else s.frm,
      retry := decide (crc8 d.toList ≠ c),
      rsps := s.rsps ++ List.replicate 7 ⟨.ok, 0⟩ ++ [⟨if crc8 d.toList = c then .ok else .mismatch, info⟩] }

/-! ### Calibration and raw frame -/

/-- `CALBLOCK` (R92) from any state: an unlocked store takes all 26 bytes and locks, a locked one refuses every command and
keeps its bytes (R140, R141). -/
def Obligations.CalibrationBlockLoadsOnceAndLocks : Prop :=
  ∀ (s : State) (b : Vector Byte 26),
    (s.calptr.val ≠ 26 → Host.Core.run Sys2Proof.core 27 (present (Pseudo.calblock b).expand s) = .next { s with
      cal := b, calptr := 26, rsps := s.rsps ++ List.replicate 27 ⟨.ok, 0⟩ }) ∧
    (s.calptr.val = 26 → Host.Core.run Sys2Proof.core 27 (present (Pseudo.calblock b).expand s) = .next { s with
      fault := s.fault ||| 4, rsps := s.rsps ++ List.replicate 27 ⟨.locked, 0⟩ })

/-- `PFRAME` (R92) from any state replaces the pressure frame whole and sets the three flags (R145 to R147). -/
def Obligations.PressureFrameIsReplacedWhole : Prop :=
  ∀ (s : State) (b : Vector Byte 6),
    Host.Core.run Sys2Proof.core 8 (present (Pseudo.pframe b).expand s) = .next { s with
      pstg := b, pfrm := b, pcnt := 0, pfrmValid := true, convNeeded := true, pHasData := true,
      rsps := s.rsps ++ List.replicate 8 ⟨.ok, 0⟩ }

/-- R143: coefficients are little-endian 16-bit values, unsigned for the indices in `CAL_UNSIGNED` and sign-extended otherwise,
read back by `RD COEF[k]`; `TFINE` and `TCOMP` do not depend on the choice of `CAL_UNSIGNED`. -/
def Obligations.CoefficientsAreLittleEndian : Prop :=
  (∀ (cu : CalUnsigned) (cal : Vector Byte 26) (k : Fin 12) (raw : Int),
    raw = (cal[2 * k.val + 1]'(by omega)).toNat * 256 + (cal[2 * k.val]'(by omega)).toNat →
    (k = 0 ∨ (k = 3 ∧ cu = .t1p1) → coef cu cal k = raw) ∧
    (k ≠ 0 → (k = 3 → cu = .t1) → coef cu cal k = if raw < 32768 then raw else raw - 65536)) ∧
  (∀ (s : State) (k : Fin 12), ∃ d : Data, d.toInt = coef s.calUnsigned s.cal k ∧
    exec (.rd (BitVec.ofNat 8 (0x60 + k.val))) s = .next { s with rsps := s.rsps ++ [⟨.ok, d⟩] }) ∧
  ∀ (cal : Vector Byte 26) (adcT adcP : Int),
    (convert (coefs .t1 cal) adcT adcP).tf = (convert (coefs .t1p1 cal) adcT adcP).tf ∧
    (convert (coefs .t1 cal) adcT adcP).tc = (convert (coefs .t1p1 cal) adcT adcP).tc

/-- `CAL[24]` and `CAL[25]` enter no computation (R142): two states whose calibration agrees on `CAL[0..23]` convert alike;
they are stored and readable. -/
def Obligations.LastTwoCalibrationBytesAreUnused : Prop :=
  (∀ s s' : State, (∀ (k : Nat) (hk : k < 24), s'.cal[k] = s.cal[k]) → s'.pfrm = s.pfrm → s'.calUnsigned = s.calUnsigned →
    conversionOf s' = conversionOf s) ∧
  ∀ s : State, exec (.rd 0x58) s = .next { s with rsps := s.rsps ++ [⟨.ok, s.cal[24].setWidth 32⟩] } ∧
    exec (.rd 0x59) s = .next { s with rsps := s.rsps ++ [⟨.ok, s.cal[25].setWidth 32⟩] }

/-- R149: the two 20-bit ADC fields, with the low nibbles of bytes 2 and 5 ignored, and the rule's example. -/
def Obligations.AdcFieldsArePackedMsbFirst : Prop :=
  (∀ p : Vector Byte 6,
    (adcP p).toNat = p[0].toNat * 4096 + p[1].toNat * 16 + p[2].toNat / 16 ∧
    (adcT p).toNat = p[3].toNat * 4096 + p[4].toNat * 16 + p[5].toNat / 16 ∧
    (adcP p).toNat ≤ 2 ^ 20 - 1 ∧ (adcT p).toNat ≤ 2 ^ 20 - 1) ∧
  adcP #v[0x65, 0x5A, 0xC0, 0x7E, 0xED, 0x00] = 415148 ∧ adcT #v[0x65, 0x5A, 0xC0, 0x7E, 0xED, 0x00] = 519888

/-! ### Humidity fields, scaler, status -/

/-- R124: the two 20-bit fields of the humidity frame; neither `FRM[0]` nor `FRM[6]` enters either. -/
def Obligations.HumidityFieldsArePackedMsbFirst : Prop :=
  (∀ f : Vector Byte 7,
    (hraw f).toNat = f[1].toNat * 4096 + f[2].toNat * 16 + f[3].toNat / 16 ∧
    (traw f).toNat = f[3].toNat % 16 * 65536 + f[4].toNat * 256 + f[5].toNat ∧
    (hraw f).toNat ≤ 2 ^ 20 - 1 ∧ (traw f).toNat ≤ 2 ^ 20 - 1) ∧
  ∀ f g : Vector Byte 7, (∀ k : Fin 7, k ≠ 0 → k ≠ 6 → g[k] = f[k]) → hraw g = hraw f ∧ traw g = traw f

/-- R127, R128, R129: what `RD HUM`, `RD TEMPC` and `RD TEMPF` return, their ranges, and the exact rationals they stand for. -/
def Obligations.LinearScalerIsExact : Prop :=
  ∀ (s : State) (h c : Nat), h = (hraw s.frm).toNat → c = (traw s.frm).toNat →
    ∃ dh dc df : Data,
      exec (.rd 0x0A) s = .next { s with rsps := s.rsps ++ [⟨.ok, dh⟩] } ∧
      exec (.rd 0x0B) s = .next { s with rsps := s.rsps ++ [⟨.ok, dc⟩] } ∧
      exec (.rd 0x0C) s = .next { s with rsps := s.rsps ++ [⟨.ok, df⟩] } ∧
      dh.toNat = h * 100 ∧ dh.toNat ≤ 104857500 ∧ dh.toNat < 100 * 2 ^ 20 ∧ (dh.toNat : ℚ) / 2 ^ 20 = (h : ℚ) / 2 ^ 20 * 100 ∧
      dc.toInt = c * 200 - 52428800 ∧ -52428800 ≤ dc.toInt ∧ dc.toInt ≤ 157286200 ∧
      (dc.toInt : ℚ) / 2 ^ 20 = (c : ℚ) / 2 ^ 20 * 200 - 50 ∧
      (c = 0 → dc.toInt = -52428800) ∧ (c = 2 ^ 20 - 1 → dc.toInt = 157286200) ∧
      df.toInt = c * 360 - 60817408 ∧ -60817408 ≤ df.toInt ∧ df.toInt ≤ 316669592 ∧
      (df.toInt : ℚ) / 2 ^ 20 = (dc.toInt : ℚ) / 2 ^ 20 * (9 / 5) + 32

/-- The accessors of R194 that have no side effect give the exact flags and rationals of R183, R131 and R127 to R129, and change
nothing; the two of the pressure driver, once converted, give `TCOMP / 100` and `PCOMP / 25600`. That `busy()` and
`calibrated()` are bits 7 and 3 of `FRM[0]` is the model's choice of R6's values for the parameters of R27 (log entry 7). -/
def Obligations.AccessorsGiveExactQuantities : Prop :=
  ∀ (s : State) (gives : Accessor → Reading → Prop),
    (∀ a v, gives a v ↔ ∃ d : Data, exec a.command s = .next { s with rsps := s.rsps ++ [⟨.ok, d⟩] } ∧ a.value d = v) →
    gives .hHasData (.flag (decide ((hraw s.frm).toNat ≠ 0 ∨ (traw s.frm).toNat ≠ 0))) ∧
    gives .hBusy (.flag (s.frm[0].getLsbD 7)) ∧ gives .hCalibrated (.flag (s.frm[0].getLsbD 3)) ∧
    gives .hHumidity (.quantity ((hraw s.frm).toNat / 2 ^ 20 * 100)) ∧
    gives .hTemperature (.quantity ((traw s.frm).toNat / 2 ^ 20 * 200 - 50)) ∧
    gives .hTemperatureF (.quantity (((traw s.frm).toNat / 2 ^ 20 * 200 - 50) * (9 / 5) + 32)) ∧
    gives .hRawHumidity (.quantity (hraw s.frm).toNat) ∧ gives .hRawTemperature (.quantity (traw s.frm).toNat) ∧
    (∀ k : Fin 7, gives (.hRawByte k) (.quantity s.frm[k].toNat)) ∧
    gives .pHasData (.flag s.pHasData) ∧
    gives .pRawTemperature (.quantity (adcT s.pfrm).toNat) ∧ gives .pRawPressure (.quantity (adcP s.pfrm).toNat) ∧
    (∀ k : Fin 6, gives (.pRawByte k) (.quantity s.pfrm[k].toNat)) ∧
    (∀ k : Fin 26, gives (.pCalByte k) (.quantity s.cal[k].toNat)) ∧
    (∀ k : Fin 12, gives (.pCoef k) (.quantity (coef s.calUnsigned s.cal k))) ∧
    (s.pfrmValid = true → s.convNeeded = false →
      gives .pTemperature (.quantity (s.tcomp.toInt / 100)) ∧ gives .pFine (.quantity s.tfine.toInt) ∧
      ∃ d : Data, exec (Accessor.pPressure).command s =
        .next { s with pHasData := false, rsps := s.rsps ++ [⟨.ok, d⟩] } ∧
        (Accessor.pPressure).value d = .quantity (s.pcomp.toNat / 25600))

/-- R40, with R27, R28 and R32 for its first bits: the bits of `STATUS` that `RD STATUS` returns, all 0 at reset; reading it
has no side effect. That bits 1 and 2 are bits 7 and 3 of `FRM[0]` is the model's choice of R6's values for the parameters of
R27 (log entry 7). -/
def Obligations.StatusBitsAreAssembledAtTheRead : Prop :=
  (∀ s : State, ∃ d : Data, exec (.rd 0x00) s = .next { s with rsps := s.rsps ++ [⟨.ok, d⟩] } ∧
    (d.getLsbD 0 = true ↔ (hraw s.frm).toNat ≠ 0 ∨ (traw s.frm).toNat ≠ 0) ∧
    d.getLsbD 1 = s.frm[0].getLsbD 7 ∧ d.getLsbD 2 = s.frm[0].getLsbD 3 ∧ d.getLsbD 3 = s.retry ∧
    (d.getLsbD 4 = true ↔ s.calptr.val = 26) ∧ d.getLsbD 5 = s.pfrmValid ∧ d.getLsbD 6 = s.convNeeded ∧
    d.getLsbD 7 = s.pHasData ∧ d.getLsbD 8 = s.pzero ∧ ∀ k, 9 ≤ k → d.getLsbD k = false) ∧
  exec (.rd 0x00) State.reset = .next { State.reset with rsps := [⟨.ok, 0⟩] }

/-! ### Arithmetic and the compensation pipeline -/

/-- R8: the width operators, each by its defining property. -/
def Obligations.WidthOperators : Prop :=
  (∀ (n : Nat) (v : Int), ((trunc n v).toNat : Int) = v % 2 ^ n) ∧
  (∀ (w : Nat) (v : BitVec w), w ≤ 32 → (zext32 v).toNat = v.toNat) ∧
  (∀ (w : Nat) (v : BitVec w), 0 < w →
    sext v = if v.toNat < 2 ^ (w - 1) then (v.toNat : Int) else (v.toNat : Int) - 2 ^ w) ∧
  (∀ (n : Nat) (v : Int), 0 < n →
    (-2 ^ (n - 1) ≤ wrap n v ∧ wrap n v < 2 ^ (n - 1) ∧ wrap n v % 2 ^ n = v % 2 ^ n) ∧ (ovf n v = true ↔ wrap n v ≠ v)) ∧
  (∀ (v : Int) (k : Nat), asr v k = ⌊(v : ℚ) / 2 ^ k⌋ ∧ shl v k = v * 2 ^ k) ∧
  ∀ a b : Int, b ≠ 0 → sdiv a b = a.sign * b.sign * ⌊|(a : ℚ)| / |(b : ℚ)|⌋

/-- R173: the ranges of stage T, for `T1` unsigned and every ADC code of 20 bits. -/
def Obligations.StageTRanges : Prop :=
  ∀ (c : Coefs) (a : Int) (t : StageT), 0 ≤ c.T1 → c.T1 ≤ 65535 → -32768 ≤ c.T2 → c.T2 ≤ 32767 →
    -32768 ≤ c.T3 → c.T3 ≤ 32767 → 0 ≤ a → a ≤ 2 ^ 20 - 1 → t = stageT c a →
    (-131070 ≤ t.a3 ∧ t.a3 ≤ 131071) ∧ |t.a3 * c.T2| ≤ 131071 * 32768 ∧
    (t.steps[0]? = some true → 2 ^ 31 ≤ |t.a3 * c.T2|) ∧ (2 ^ 31 ≤ |t.a3 * c.T2| → 65535 < |t.a3| ∧ 16383 < |c.T2|) ∧
    (-65535 ≤ t.b1 ∧ t.b1 ≤ 65535) ∧ (t.steps[1]? = some true → 46341 ≤ |t.b1|) ∧
    |t.b3| ≤ 2 ^ 19 ∧ (t.steps[2]? = some true → 2 ^ 31 ≤ |t.b3 * c.T3|) ∧
    |t.var1| ≤ 2 ^ 20 ∧ |t.var2| ≤ 2 ^ 17 ∧ |t.tf| ≤ 2 ^ 20 + 2 ^ 17 ∧
    t.steps[3]? = some false ∧ t.steps[4]? = some false ∧ t.steps[5]? = some false

/-- None of [O7] to [O16] overflows for a fine temperature that stage T can produce and signed 16-bit coefficients (R174). -/
def Obligations.PolynomialTermsNeverOverflow : Prop :=
  ∀ (c : Coefs) (tf : Int), |tf| ≤ 2 ^ 20 + 2 ^ 17 →
    (∀ p ∈ [c.P2, c.P3, c.P4, c.P5, c.P6], -32768 ≤ p ∧ p ≤ 32767) →
    |(polyTerms c tf).v| ≤ 1307648 ∧ (polyTerms c tf).steps = List.replicate 10 false

/-- R176: the guard fires exactly when `0 <= d2 < 2^33`, in particular whenever `P1 = 0`; then the pressure is 0 with `PZERO`,
and only [O1] to [O18] are evaluated; without an overflow the code is `OK` and no `FAULT` bit is set. -/
def Obligations.ZeroDenominatorIsGuarded : Prop :=
  (∀ (c : Coefs) (a p : Int) (d : Denominator), d = denominator c (polyTerms c (stageT c a).tf).var1 →
    (d.den = 0 ↔ 0 ≤ d.d2 ∧ d.d2 < 2 ^ 33) ∧ (c.P1 = 0 → d.den = 0) ∧
    (d.den = 0 → (convert c a p).pc = 0 ∧ (convert c a p).pz = true ∧ (convert c a p).steps.length = 18 ∧
      (convert c a p).tf = (stageT c a).tf ∧ (convert c a p).tc = (stageT c a).tc) ∧
    (d.den ≠ 0 → (convert c a p).pz = false ∧ (convert c a p).steps.length = 28)) ∧
  ∀ s : State, ready s = true → (conversionOf s).pz = true → (conversionOf s).ov = false →
    ∃ t, exec .convert s = .next t ∧ t.pcomp = 0 ∧ t.pzero = true ∧ t.fault = s.fault ∧ t.rsps = s.rsps ++ [⟨.ok, 0⟩]

/-- R179: `ov` is true iff an evaluated step overflowed; with the coefficients of any calibration block and any 20-bit ADC
codes, only [O1], [O2], [O3], [O18], [O20], [O21] and [O22] to [O28] can overflow, [O20] and [O21] only where the rule says; when the guard fires, only [O1] to [O18]
are evaluated; `ov` sets the sticky `FAULT.OVF` and the code of the command that ran the conversion. -/
def Obligations.OnlyListedStepsCanOverflow : Prop :=
  (∀ (cu : CalUnsigned) (cal : Vector Byte 26) (a p : BitVec 20) (r : Conversion),
    r = convert (coefs cu cal) a.toNat p.toNat →
    (r.ov = true ↔ ∃ k : Nat, r.steps[k]? = some true) ∧
    (r.pz = true → r.steps.length = 18) ∧ (r.pz = false → r.steps.length = 28) ∧
    ∀ k : Nat, r.steps[k]? = some true → k + 1 ∈ [1, 2, 3, 18, 20, 21, 22, 23, 24, 25, 26, 27, 28]) ∧
  (∀ (c : Coefs) (cu : CalUnsigned) (cal : Vector Byte 26) (a p : BitVec 20) (d : Denominator) (q : Quotient),
    c = coefs cu cal → d = divisor c a.toNat →
    q = quotient c p.toNat (polyTerms c (stageT c a.toNat).tf).var2 d.den →
    |d.d1| < 2 ^ 51 ∧ |q.n2| < 2 ^ 59 ∧ (q.steps[1]? = some true → 2951479051793529 ≤ |q.n2|) ∧
    (d.den ≠ 0 → (q.steps[2]? = some true ↔ q.n3 = -2 ^ 63 ∧ d.den = -1))) ∧
  ∀ (s t : State) (r : Response) (i : Instr), ready s = true →
    i = .convert ∨ (s.convNeeded = true ∧ i ∈ [.rd 0x12, .rd 0x13, .rd 0x14]) →
    exec i s = .next t → t.rsps = s.rsps ++ [r] →
    ((conversionOf s).ov = true → t.fault = s.fault ||| 16 ∧ r.code = .ovf) ∧
    ((conversionOf s).ov = false → t.fault = s.fault ∧ r.code = .ok)

/-- The properties (P2) and (P3) that R161 lets a claim assume of the compensation: `TFINE` and `TCOMP` depend on `c[0..2]` and
`ADC_T` alone, and `PZERO = 1` implies `PCOMP = 0`. -/
def Obligations.CompensationHasItsNamedProperties : Prop :=
  (∀ (c c' : Coefs) (a p p' : Int), c'.T1 = c.T1 → c'.T2 = c.T2 → c'.T3 = c.T3 →
    (convert c' a p').tf = (convert c a p).tf ∧ (convert c' a p').tc = (convert c a p).tc) ∧
  ∀ (c : Coefs) (a p : Int), (convert c a p).pz = true → (convert c a p).pc = 0

/-- The worked example of file 95, V40 (`CAL_UNSIGNED = {0, 3}`) and V41 (`{0}`, which does not reproduce it). -/
def Obligations.WorkedExampleOfTheDatasheet : Prop :=
  ∀ c : Coefs, c = ⟨27504, 26435, -1000, 36477, -10685, 3024, 2855, 140, -7, 15500, -14600, 6000⟩ →
    ((convert c 519888 415148).tf = 128422 ∧ (convert c 519888 415148).tc = 2508 ∧ (convert c 519888 415148).pc = 25767233 ∧
      (convert c 519888 415148).pz = false ∧ (convert c 519888 415148).ov = false) ∧
    (convert { c with P1 := -29059 } 519888 415148).pc = 4264465455 ∧
    (convert { c with P1 := -29059 } 519888 415148).steps[27]? = some true
end

