-- ==== Sys2Proof/Laws/Arith.lean ====
section
/-! SUPPORT. The width operators of R8: range and congruence of `wrap`, when a value fits, bounds of `asr`. -/

namespace Sys2Proof.Machine

theorem wrap_eq_bmod (n : Nat) (hn : 0 < n) (v : Int) : wrap n v = Int.bmod v (2 ^ n) := by
  obtain ⟨k, rfl⟩ : ∃ k, n = k + 1 := ⟨n - 1, by omega⟩
  have h2 : (2 : Int) ^ (k + 1) = 2 * 2 ^ k := by ring
  have hc : ((2 ^ (k + 1) : Nat) : Int) = 2 * 2 ^ k := by push_cast; ring
  simp only [wrap, Int.bmod, hc, h2, Nat.add_sub_cancel]
  have : (2 * (2 : Int) ^ k + 1) / 2 = 2 ^ k := by omega
  rw [this]
  split <;> split <;> omega

theorem wrap_congr (n : Nat) (v : Int) : (wrap n v) % 2 ^ n = v % 2 ^ n := by
  simp only [wrap]
  split <;> simp

theorem wrap_bounds (n : Nat) (hn : 0 < n) (v : Int) : -2 ^ (n - 1) ≤ wrap n v ∧ wrap n v < 2 ^ (n - 1) := by
  obtain ⟨k, rfl⟩ : ∃ k, n = k + 1 := ⟨n - 1, by omega⟩
  have h2 : (2 : Int) ^ (k + 1) = 2 * 2 ^ k := by ring
  have hp : (0 : Int) < 2 ^ k := by positivity
  have h0 := Int.emod_nonneg v (show (2 : Int) ^ (k + 1) ≠ 0 by positivity)
  have h1 := Int.emod_lt_of_pos v (show (0 : Int) < 2 ^ (k + 1) by positivity)
  simp only [wrap, Nat.add_sub_cancel]
  rw [h2] at *
  split <;> omega

theorem wrap_of_fits (n : Nat) (hn : 0 < n) (v : Int) (h : -2 ^ (n - 1) ≤ v ∧ v < 2 ^ (n - 1)) : wrap n v = v := by
  obtain ⟨k, rfl⟩ : ∃ k, n = k + 1 := ⟨n - 1, by omega⟩
  have h2 : (2 : Int) ^ (k + 1) = 2 * 2 ^ k := by ring
  simp only [Nat.add_sub_cancel] at h
  simp only [wrap, Nat.add_sub_cancel]
  rw [h2]
  by_cases hv : 0 ≤ v
  · rw [Int.emod_eq_of_lt hv (by omega)]; split <;> omega
  · have : v % (2 * 2 ^ k) = v + 2 * 2 ^ k := by
      rw [← Int.add_emod_right]
      exact Int.emod_eq_of_lt (by omega) (by omega)
    rw [this]; split <;> omega

/-- A step overflows exactly when its exact result is outside the signed range. -/
theorem ovf_iff (n : Nat) (hn : 0 < n) (v : Int) : ovf n v = true ↔ v < -2 ^ (n - 1) ∨ 2 ^ (n - 1) ≤ v := by
  have hb := wrap_bounds n hn v
  simp only [ovf, bne_iff_ne, ne_eq]
  constructor
  · intro h
    by_contra hc
    exact h (wrap_of_fits n hn v (by omega))
  · rintro h heq
    omega

theorem ovf_eq_false_iff (n : Nat) (hn : 0 < n) (v : Int) :
    ovf n v = false ↔ -2 ^ (n - 1) ≤ v ∧ v < 2 ^ (n - 1) := by
  rw [← Bool.not_eq_true, ovf_iff n hn v]; omega

/-- `asr` divides the bounds. -/
theorem asr_bounds (v lo hi : Int) (k : Nat) (h1 : lo * 2 ^ k ≤ v) (h2 : v < hi * 2 ^ k) : lo ≤ asr v k ∧ asr v k < hi := by
  have hp : (0 : Int) < 2 ^ k := by positivity
  exact ⟨(Int.le_ediv_iff_mul_le hp).2 h1, (Int.ediv_lt_iff_lt_mul hp).2 h2⟩

end Sys2Proof.Machine
end

