-- ==== Sys2Proof/Laws/Compensation.lean ====
section
/-! SUPPORT. The named values of each stage in terms of the ones before it (R172, R174, R175, R177), so that no later proof
unfolds a stage whole; and the four values of a conversion (R171). -/

namespace Sys2Proof.Machine

theorem stageT_a1 (c : Coefs) (adcT : Int) : (stageT c adcT).a1 =
    asr adcT 3 := by
  dsimp only [stageT]

theorem stageT_a2 (c : Coefs) (adcT : Int) : (stageT c adcT).a2 =
    c.T1 * 2 := by
  dsimp only [stageT]

theorem stageT_a3 (c : Coefs) (adcT : Int) : (stageT c adcT).a3 =
    (stageT c adcT).a1 - (stageT c adcT).a2 := by
  dsimp only [stageT]

theorem stageT_a4 (c : Coefs) (adcT : Int) : (stageT c adcT).a4 =
    wrap 32 ((stageT c adcT).a3 * c.T2) := by
  dsimp only [stageT]

theorem stageT_var1 (c : Coefs) (adcT : Int) : (stageT c adcT).var1 =
    asr (stageT c adcT).a4 11 := by
  dsimp only [stageT]

theorem stageT_b1 (c : Coefs) (adcT : Int) : (stageT c adcT).b1 =
    asr adcT 4 - c.T1 := by
  dsimp only [stageT]

theorem stageT_b2 (c : Coefs) (adcT : Int) : (stageT c adcT).b2 =
    wrap 32 ((stageT c adcT).b1 * (stageT c adcT).b1) := by
  dsimp only [stageT]

theorem stageT_b3 (c : Coefs) (adcT : Int) : (stageT c adcT).b3 =
    asr (stageT c adcT).b2 12 := by
  dsimp only [stageT]

theorem stageT_b4 (c : Coefs) (adcT : Int) : (stageT c adcT).b4 =
    wrap 32 ((stageT c adcT).b3 * c.T3) := by
  dsimp only [stageT]

theorem stageT_var2 (c : Coefs) (adcT : Int) : (stageT c adcT).var2 =
    asr (stageT c adcT).b4 14 := by
  dsimp only [stageT]

theorem stageT_tf (c : Coefs) (adcT : Int) : (stageT c adcT).tf =
    wrap 32 ((stageT c adcT).var1 + (stageT c adcT).var2) := by
  dsimp only [stageT]

theorem stageT_t1 (c : Coefs) (adcT : Int) : (stageT c adcT).t1 =
    wrap 32 ((stageT c adcT).tf * 5) := by
  dsimp only [stageT]

theorem stageT_t2 (c : Coefs) (adcT : Int) : (stageT c adcT).t2 =
    wrap 32 ((stageT c adcT).t1 + 128) := by
  dsimp only [stageT]

theorem stageT_tc (c : Coefs) (adcT : Int) : (stageT c adcT).tc =
    asr (stageT c adcT).t2 8 := by
  dsimp only [stageT]

theorem stageT_steps (c : Coefs) (adcT : Int) : (stageT c adcT).steps =
    [ovf 32 ((stageT c adcT).a3 * c.T2), ovf 32 ((stageT c adcT).b1 * (stageT c adcT).b1),
      ovf 32 ((stageT c adcT).b3 * c.T3), ovf 32 ((stageT c adcT).var1 + (stageT c adcT).var2),
      ovf 32 ((stageT c adcT).tf * 5), ovf 32 ((stageT c adcT).t1 + 128)] := by
  dsimp only [stageT]

theorem polyTerms_v (c : Coefs) (tf : Int) : (polyTerms c tf).v =
    tf - 128000 := by
  dsimp only [polyTerms]

theorem polyTerms_p1 (c : Coefs) (tf : Int) : (polyTerms c tf).p1 =
    wrap 64 ((polyTerms c tf).v * (polyTerms c tf).v) := by
  dsimp only [polyTerms]

theorem polyTerms_p2 (c : Coefs) (tf : Int) : (polyTerms c tf).p2 =
    wrap 64 ((polyTerms c tf).p1 * c.P6) := by
  dsimp only [polyTerms]

theorem polyTerms_p3 (c : Coefs) (tf : Int) : (polyTerms c tf).p3 =
    wrap 64 ((polyTerms c tf).v * c.P5) := by
  dsimp only [polyTerms]

theorem polyTerms_p4 (c : Coefs) (tf : Int) : (polyTerms c tf).p4 =
    wrap 64 (shl (polyTerms c tf).p3 17) := by
  dsimp only [polyTerms]

theorem polyTerms_p5 (c : Coefs) (tf : Int) : (polyTerms c tf).p5 =
    wrap 64 ((polyTerms c tf).p2 + (polyTerms c tf).p4) := by
  dsimp only [polyTerms]

theorem polyTerms_var2 (c : Coefs) (tf : Int) : (polyTerms c tf).var2 =
    wrap 64 ((polyTerms c tf).p5 + shl c.P4 35) := by
  dsimp only [polyTerms]

theorem polyTerms_p7 (c : Coefs) (tf : Int) : (polyTerms c tf).p7 =
    wrap 64 ((polyTerms c tf).p1 * c.P3) := by
  dsimp only [polyTerms]

theorem polyTerms_p8 (c : Coefs) (tf : Int) : (polyTerms c tf).p8 =
    asr (polyTerms c tf).p7 8 := by
  dsimp only [polyTerms]

theorem polyTerms_p9 (c : Coefs) (tf : Int) : (polyTerms c tf).p9 =
    wrap 64 ((polyTerms c tf).v * c.P2) := by
  dsimp only [polyTerms]

theorem polyTerms_p10 (c : Coefs) (tf : Int) : (polyTerms c tf).p10 =
    wrap 64 (shl (polyTerms c tf).p9 12) := by
  dsimp only [polyTerms]

theorem polyTerms_var1 (c : Coefs) (tf : Int) : (polyTerms c tf).var1 =
    wrap 64 ((polyTerms c tf).p8 + (polyTerms c tf).p10) := by
  dsimp only [polyTerms]

theorem polyTerms_steps (c : Coefs) (tf : Int) : (polyTerms c tf).steps =
    [ovf 64 ((polyTerms c tf).v * (polyTerms c tf).v), ovf 64 ((polyTerms c tf).p1 * c.P6),
      ovf 64 ((polyTerms c tf).v * c.P5), ovf 64 (shl (polyTerms c tf).p3 17),
      ovf 64 ((polyTerms c tf).p2 + (polyTerms c tf).p4), ovf 64 ((polyTerms c tf).p5 + shl c.P4 35),
      ovf 64 ((polyTerms c tf).p1 * c.P3), ovf 64 ((polyTerms c tf).v * c.P2), ovf 64 (shl (polyTerms c tf).p9 12),
      ovf 64 ((polyTerms c tf).p8 + (polyTerms c tf).p10)] := by
  dsimp only [polyTerms]

theorem denominator_d1 (c : Coefs) (var1 : Int) : (denominator c var1).d1 =
    wrap 64 (2 ^ 47 + var1) := by
  dsimp only [denominator]

theorem denominator_d2 (c : Coefs) (var1 : Int) : (denominator c var1).d2 =
    wrap 64 ((denominator c var1).d1 * c.P1) := by
  dsimp only [denominator]

theorem denominator_den (c : Coefs) (var1 : Int) : (denominator c var1).den =
    asr (denominator c var1).d2 33 := by
  dsimp only [denominator]

theorem denominator_steps (c : Coefs) (var1 : Int) : (denominator c var1).steps =
    [ovf 64 (2 ^ 47 + var1), ovf 64 ((denominator c var1).d1 * c.P1)] := by
  dsimp only [denominator]

theorem quotient_n1 (c : Coefs) (adcP var2 den : Int) : (quotient c adcP var2 den).n1 =
    1048576 - adcP := by
  dsimp only [quotient]

theorem quotient_n2 (c : Coefs) (adcP var2 den : Int) : (quotient c adcP var2 den).n2 =
    wrap 64 (shl (quotient c adcP var2 den).n1 31 - var2) := by
  dsimp only [quotient]

theorem quotient_n3 (c : Coefs) (adcP var2 den : Int) : (quotient c adcP var2 den).n3 =
    wrap 64 ((quotient c adcP var2 den).n2 * 3125) := by
  dsimp only [quotient]

theorem quotient_q (c : Coefs) (adcP var2 den : Int) : (quotient c adcP var2 den).q =
    wrap 64 (sdiv (quotient c adcP var2 den).n3 den) := by
  dsimp only [quotient]

theorem quotient_h (c : Coefs) (adcP var2 den : Int) : (quotient c adcP var2 den).h =
    asr (quotient c adcP var2 den).q 13 := by
  dsimp only [quotient]

theorem quotient_e1 (c : Coefs) (adcP var2 den : Int) : (quotient c adcP var2 den).e1 =
    wrap 64 (c.P9 * (quotient c adcP var2 den).h) := by
  dsimp only [quotient]

theorem quotient_e2 (c : Coefs) (adcP var2 den : Int) : (quotient c adcP var2 den).e2 =
    wrap 64 ((quotient c adcP var2 den).e1 * (quotient c adcP var2 den).h) := by
  dsimp only [quotient]

theorem quotient_e3 (c : Coefs) (adcP var2 den : Int) : (quotient c adcP var2 den).e3 =
    asr (quotient c adcP var2 den).e2 25 := by
  dsimp only [quotient]

theorem quotient_g1 (c : Coefs) (adcP var2 den : Int) : (quotient c adcP var2 den).g1 =
    wrap 64 (c.P8 * (quotient c adcP var2 den).q) := by
  dsimp only [quotient]

theorem quotient_g2 (c : Coefs) (adcP var2 den : Int) : (quotient c adcP var2 den).g2 =
    asr (quotient c adcP var2 den).g1 19 := by
  dsimp only [quotient]

theorem quotient_s1 (c : Coefs) (adcP var2 den : Int) : (quotient c adcP var2 den).s1 =
    wrap 64 ((quotient c adcP var2 den).q + (quotient c adcP var2 den).e3) := by
  dsimp only [quotient]

theorem quotient_s2 (c : Coefs) (adcP var2 den : Int) : (quotient c adcP var2 den).s2 =
    wrap 64 ((quotient c adcP var2 den).s1 + (quotient c adcP var2 den).g2) := by
  dsimp only [quotient]

theorem quotient_s3 (c : Coefs) (adcP var2 den : Int) : (quotient c adcP var2 den).s3 =
    asr (quotient c adcP var2 den).s2 8 := by
  dsimp only [quotient]

theorem quotient_pf (c : Coefs) (adcP var2 den : Int) : (quotient c adcP var2 den).pf =
    wrap 64 ((quotient c adcP var2 den).s3 + c.P7 * 16) := by
  dsimp only [quotient]

theorem quotient_pc (c : Coefs) (adcP var2 den : Int) : (quotient c adcP var2 den).pc =
    trunc 32 (quotient c adcP var2 den).pf := by
  dsimp only [quotient]

theorem quotient_steps (c : Coefs) (adcP var2 den : Int) : (quotient c adcP var2 den).steps =
    [ovf 64 (shl (quotient c adcP var2 den).n1 31 - var2), ovf 64 ((quotient c adcP var2 den).n2 * 3125),
      ovf 64 (sdiv (quotient c adcP var2 den).n3 den), ovf 64 (c.P9 * (quotient c adcP var2 den).h),
      ovf 64 ((quotient c adcP var2 den).e1 * (quotient c adcP var2 den).h), ovf 64 (c.P8 * (quotient c adcP var2 den).q),
      ovf 64 ((quotient c adcP var2 den).q + (quotient c adcP var2 den).e3),
      ovf 64 ((quotient c adcP var2 den).s1 + (quotient c adcP var2 den).g2),
      ovf 64 ((quotient c adcP var2 den).s3 + c.P7 * 16),
      ((quotient c adcP var2 den).pc.toNat : Int) != (quotient c adcP var2 den).pf] := by
  dsimp only [quotient]

theorem convert_tf (c : Coefs) (adcT adcP : Int) : (convert c adcT adcP).tf = (stageT c adcT).tf := by
  simp only [convert]; split <;> rfl

theorem convert_tc (c : Coefs) (adcT adcP : Int) : (convert c adcT adcP).tc = (stageT c adcT).tc := by
  simp only [convert]; split <;> rfl

theorem convert_guarded (c : Coefs) (adcT adcP : Int) (h : (divisor c adcT).den = 0) :
    (convert c adcT adcP).pc = 0 ∧ (convert c adcT adcP).pz = true ∧
      (convert c adcT adcP).steps =
        (stageT c adcT).steps ++ (polyTerms c (stageT c adcT).tf).steps ++ (divisor c adcT).steps := by
  simp only [convert, divisor] at *
  simp [h]

theorem convert_unguarded (c : Coefs) (adcT adcP : Int) (h : (divisor c adcT).den ≠ 0) :
    (convert c adcT adcP).pc = (quotient c adcP (polyTerms c (stageT c adcT).tf).var2 (divisor c adcT).den).pc ∧
      (convert c adcT adcP).pz = false ∧
      (convert c adcT adcP).steps =
        (stageT c adcT).steps ++ (polyTerms c (stageT c adcT).tf).steps ++ (divisor c adcT).steps ++
          (quotient c adcP (polyTerms c (stageT c adcT).tf).var2 (divisor c adcT).den).steps := by
  simp only [convert, divisor] at *
  simp [h]

end Sys2Proof.Machine
end

