-- ==== Sys2Proof/Laws/Decode.lean ====
section
/-! SUPPORT. A word and its two fields (R80); which row of the map a word falls under (R84). -/

namespace Sys2Proof

@[simp] theorem cmdOp_wordOf (op arg : Byte) : cmdOp (wordOf op arg) = op := by
  apply BitVec.eq_of_getLsbD_eq
  intro i hi
  simp only [cmdOp, wordOf, BitVec.getLsbD_extractLsb', BitVec.getLsbD_cast, BitVec.getLsbD_append]
  simp [hi]

@[simp] theorem cmdArg_wordOf (op arg : Byte) : cmdArg (wordOf op arg) = arg := by
  apply BitVec.eq_of_getLsbD_eq
  intro i hi
  simp only [cmdArg, wordOf, BitVec.getLsbD_extractLsb', BitVec.getLsbD_cast, BitVec.getLsbD_append]
  simp [hi]

theorem wordOf_fields (w : CmdWord) : wordOf (cmdOp w) (cmdArg w) = w := by
  apply BitVec.eq_of_getLsbD_eq
  intro i hi
  simp only [cmdOp, cmdArg, wordOf, BitVec.getLsbD_extractLsb', BitVec.getLsbD_cast, BitVec.getLsbD_append]
  by_cases h : i < 8
  · simp [h]
  · have h8 : i - 8 < 8 := by omega
    have e : 8 + (i - 8) = i := by omega
    simp [h, h8, e]

/-- A word that decodes is accepted by a row of the map, which builds the instruction from its `arg`. -/
theorem row_of_decode (w : CmdWord) (i : Instr) (h : decode w = .ok i) :
    ∃ r ∈ opcodeTable, r.accepts w = true ∧ r.build (cmdArg w) = i := by
  simp only [decode] at h
  split at h
  · rename_i r hr
    exact ⟨r, List.mem_of_find?_eq_some hr, by simpa using List.find?_some hr, by simpa using h⟩
  · cases h

/-- A word that is rejected is accepted by no row. -/
theorem no_row_of_rejected (w : CmdWord) (e : DecodeError) (h : decode w = .error e) :
    ∀ r ∈ opcodeTable, r.accepts w = false := by
  simp only [decode] at h
  split at h
  · cases h
  · rename_i hn
    simpa using List.find?_eq_none.1 hn

end Sys2Proof
end

