-- ==== Sys2Proof/Laws/State.lean ====
section
/-! SUPPORT. One lemma per field for each shared update of the state, so that no later proof unfolds a record update. -/

namespace Sys2Proof.Machine


@[simp] theorem respond_crc (c : ResultCode) (d : Data) (s : State) : (respond c d s).crc = s.crc := rfl
@[simp] theorem respond_cnt (c : ResultCode) (d : Data) (s : State) : (respond c d s).cnt = s.cnt := rfl
@[simp] theorem respond_stg (c : ResultCode) (d : Data) (s : State) : (respond c d s).stg = s.stg := rfl
@[simp] theorem respond_frm (c : ResultCode) (d : Data) (s : State) : (respond c d s).frm = s.frm := rfl
@[simp] theorem respond_retry (c : ResultCode) (d : Data) (s : State) : (respond c d s).retry = s.retry := rfl
@[simp] theorem respond_cal (c : ResultCode) (d : Data) (s : State) : (respond c d s).cal = s.cal := rfl
@[simp] theorem respond_calptr (c : ResultCode) (d : Data) (s : State) : (respond c d s).calptr = s.calptr := rfl
@[simp] theorem respond_pstg (c : ResultCode) (d : Data) (s : State) : (respond c d s).pstg = s.pstg := rfl
@[simp] theorem respond_pcnt (c : ResultCode) (d : Data) (s : State) : (respond c d s).pcnt = s.pcnt := rfl
@[simp] theorem respond_pfrm (c : ResultCode) (d : Data) (s : State) : (respond c d s).pfrm = s.pfrm := rfl
@[simp] theorem respond_pfrmValid (c : ResultCode) (d : Data) (s : State) : (respond c d s).pfrmValid = s.pfrmValid := rfl
@[simp] theorem respond_convNeeded (c : ResultCode) (d : Data) (s : State) : (respond c d s).convNeeded = s.convNeeded := rfl
@[simp] theorem respond_pHasData (c : ResultCode) (d : Data) (s : State) : (respond c d s).pHasData = s.pHasData := rfl
@[simp] theorem respond_tfine (c : ResultCode) (d : Data) (s : State) : (respond c d s).tfine = s.tfine := rfl
@[simp] theorem respond_tcomp (c : ResultCode) (d : Data) (s : State) : (respond c d s).tcomp = s.tcomp := rfl
@[simp] theorem respond_pcomp (c : ResultCode) (d : Data) (s : State) : (respond c d s).pcomp = s.pcomp := rfl
@[simp] theorem respond_pzero (c : ResultCode) (d : Data) (s : State) : (respond c d s).pzero = s.pzero := rfl
@[simp] theorem respond_fault (c : ResultCode) (d : Data) (s : State) : (respond c d s).fault = s.fault := rfl
@[simp] theorem respond_calUnsigned (c : ResultCode) (d : Data) (s : State) : (respond c d s).calUnsigned = s.calUnsigned := rfl
@[simp] theorem respond_inputs (c : ResultCode) (d : Data) (s : State) : (respond c d s).inputs = s.inputs := rfl
@[simp] theorem respond_rsps (c : ResultCode) (d : Data) (s : State) : (respond c d s).rsps = s.rsps ++ [⟨c, d⟩] := rfl

@[simp] theorem setFault_crc (f : FaultBit) (s : State) : (setFault f s).crc = s.crc := rfl
@[simp] theorem setFault_cnt (f : FaultBit) (s : State) : (setFault f s).cnt = s.cnt := rfl
@[simp] theorem setFault_stg (f : FaultBit) (s : State) : (setFault f s).stg = s.stg := rfl
@[simp] theorem setFault_frm (f : FaultBit) (s : State) : (setFault f s).frm = s.frm := rfl
@[simp] theorem setFault_retry (f : FaultBit) (s : State) : (setFault f s).retry = s.retry := rfl
@[simp] theorem setFault_cal (f : FaultBit) (s : State) : (setFault f s).cal = s.cal := rfl
@[simp] theorem setFault_calptr (f : FaultBit) (s : State) : (setFault f s).calptr = s.calptr := rfl
@[simp] theorem setFault_pstg (f : FaultBit) (s : State) : (setFault f s).pstg = s.pstg := rfl
@[simp] theorem setFault_pcnt (f : FaultBit) (s : State) : (setFault f s).pcnt = s.pcnt := rfl
@[simp] theorem setFault_pfrm (f : FaultBit) (s : State) : (setFault f s).pfrm = s.pfrm := rfl
@[simp] theorem setFault_pfrmValid (f : FaultBit) (s : State) : (setFault f s).pfrmValid = s.pfrmValid := rfl
@[simp] theorem setFault_convNeeded (f : FaultBit) (s : State) : (setFault f s).convNeeded = s.convNeeded := rfl
@[simp] theorem setFault_pHasData (f : FaultBit) (s : State) : (setFault f s).pHasData = s.pHasData := rfl
@[simp] theorem setFault_tfine (f : FaultBit) (s : State) : (setFault f s).tfine = s.tfine := rfl
@[simp] theorem setFault_tcomp (f : FaultBit) (s : State) : (setFault f s).tcomp = s.tcomp := rfl
@[simp] theorem setFault_pcomp (f : FaultBit) (s : State) : (setFault f s).pcomp = s.pcomp := rfl
@[simp] theorem setFault_pzero (f : FaultBit) (s : State) : (setFault f s).pzero = s.pzero := rfl
@[simp] theorem setFault_fault (f : FaultBit) (s : State) : (setFault f s).fault = s.fault ||| f.mask := rfl
@[simp] theorem setFault_calUnsigned (f : FaultBit) (s : State) : (setFault f s).calUnsigned = s.calUnsigned := rfl
@[simp] theorem setFault_inputs (f : FaultBit) (s : State) : (setFault f s).inputs = s.inputs := rfl
@[simp] theorem setFault_rsps (f : FaultBit) (s : State) : (setFault f s).rsps = s.rsps := rfl

@[simp] theorem faultRespond_crc (f : FaultBit) (d : Data) (s : State) : (faultRespond f d s).crc = s.crc := rfl
@[simp] theorem faultRespond_cnt (f : FaultBit) (d : Data) (s : State) : (faultRespond f d s).cnt = s.cnt := rfl
@[simp] theorem faultRespond_stg (f : FaultBit) (d : Data) (s : State) : (faultRespond f d s).stg = s.stg := rfl
@[simp] theorem faultRespond_frm (f : FaultBit) (d : Data) (s : State) : (faultRespond f d s).frm = s.frm := rfl
@[simp] theorem faultRespond_retry (f : FaultBit) (d : Data) (s : State) : (faultRespond f d s).retry = s.retry := rfl
@[simp] theorem faultRespond_cal (f : FaultBit) (d : Data) (s : State) : (faultRespond f d s).cal = s.cal := rfl
@[simp] theorem faultRespond_calptr (f : FaultBit) (d : Data) (s : State) : (faultRespond f d s).calptr = s.calptr := rfl
@[simp] theorem faultRespond_pstg (f : FaultBit) (d : Data) (s : State) : (faultRespond f d s).pstg = s.pstg := rfl
@[simp] theorem faultRespond_pcnt (f : FaultBit) (d : Data) (s : State) : (faultRespond f d s).pcnt = s.pcnt := rfl
@[simp] theorem faultRespond_pfrm (f : FaultBit) (d : Data) (s : State) : (faultRespond f d s).pfrm = s.pfrm := rfl
@[simp] theorem faultRespond_pfrmValid (f : FaultBit) (d : Data) (s : State) : (faultRespond f d s).pfrmValid = s.pfrmValid := rfl
@[simp] theorem faultRespond_convNeeded (f : FaultBit) (d : Data) (s : State) : (faultRespond f d s).convNeeded = s.convNeeded := rfl
@[simp] theorem faultRespond_pHasData (f : FaultBit) (d : Data) (s : State) : (faultRespond f d s).pHasData = s.pHasData := rfl
@[simp] theorem faultRespond_tfine (f : FaultBit) (d : Data) (s : State) : (faultRespond f d s).tfine = s.tfine := rfl
@[simp] theorem faultRespond_tcomp (f : FaultBit) (d : Data) (s : State) : (faultRespond f d s).tcomp = s.tcomp := rfl
@[simp] theorem faultRespond_pcomp (f : FaultBit) (d : Data) (s : State) : (faultRespond f d s).pcomp = s.pcomp := rfl
@[simp] theorem faultRespond_pzero (f : FaultBit) (d : Data) (s : State) : (faultRespond f d s).pzero = s.pzero := rfl
@[simp] theorem faultRespond_fault (f : FaultBit) (d : Data) (s : State) : (faultRespond f d s).fault = s.fault ||| f.mask := rfl
@[simp] theorem faultRespond_calUnsigned (f : FaultBit) (d : Data) (s : State) : (faultRespond f d s).calUnsigned = s.calUnsigned := rfl
@[simp] theorem faultRespond_inputs (f : FaultBit) (d : Data) (s : State) : (faultRespond f d s).inputs = s.inputs := rfl
@[simp] theorem faultRespond_rsps (f : FaultBit) (d : Data) (s : State) : (faultRespond f d s).rsps = s.rsps ++ [⟨f.code, d⟩] := rfl

@[simp] theorem initCrcUnit_crc (s : State) : (initCrcUnit s).crc = crcInitValue := rfl
@[simp] theorem initCrcUnit_cnt (s : State) : (initCrcUnit s).cnt = 0 := rfl
@[simp] theorem initCrcUnit_stg (s : State) : (initCrcUnit s).stg = s.stg := rfl
@[simp] theorem initCrcUnit_frm (s : State) : (initCrcUnit s).frm = s.frm := rfl
@[simp] theorem initCrcUnit_retry (s : State) : (initCrcUnit s).retry = s.retry := rfl
@[simp] theorem initCrcUnit_cal (s : State) : (initCrcUnit s).cal = s.cal := rfl
@[simp] theorem initCrcUnit_calptr (s : State) : (initCrcUnit s).calptr = s.calptr := rfl
@[simp] theorem initCrcUnit_pstg (s : State) : (initCrcUnit s).pstg = s.pstg := rfl
@[simp] theorem initCrcUnit_pcnt (s : State) : (initCrcUnit s).pcnt = s.pcnt := rfl
@[simp] theorem initCrcUnit_pfrm (s : State) : (initCrcUnit s).pfrm = s.pfrm := rfl
@[simp] theorem initCrcUnit_pfrmValid (s : State) : (initCrcUnit s).pfrmValid = s.pfrmValid := rfl
@[simp] theorem initCrcUnit_convNeeded (s : State) : (initCrcUnit s).convNeeded = s.convNeeded := rfl
@[simp] theorem initCrcUnit_pHasData (s : State) : (initCrcUnit s).pHasData = s.pHasData := rfl
@[simp] theorem initCrcUnit_tfine (s : State) : (initCrcUnit s).tfine = s.tfine := rfl
@[simp] theorem initCrcUnit_tcomp (s : State) : (initCrcUnit s).tcomp = s.tcomp := rfl
@[simp] theorem initCrcUnit_pcomp (s : State) : (initCrcUnit s).pcomp = s.pcomp := rfl
@[simp] theorem initCrcUnit_pzero (s : State) : (initCrcUnit s).pzero = s.pzero := rfl
@[simp] theorem initCrcUnit_fault (s : State) : (initCrcUnit s).fault = s.fault := rfl
@[simp] theorem initCrcUnit_calUnsigned (s : State) : (initCrcUnit s).calUnsigned = s.calUnsigned := rfl
@[simp] theorem initCrcUnit_inputs (s : State) : (initCrcUnit s).inputs = s.inputs := rfl
@[simp] theorem initCrcUnit_rsps (s : State) : (initCrcUnit s).rsps = s.rsps := rfl

@[simp] theorem storeConversion_crc (r : Conversion) (s : State) : (storeConversion r s).crc = s.crc := rfl
@[simp] theorem storeConversion_cnt (r : Conversion) (s : State) : (storeConversion r s).cnt = s.cnt := rfl
@[simp] theorem storeConversion_stg (r : Conversion) (s : State) : (storeConversion r s).stg = s.stg := rfl
@[simp] theorem storeConversion_frm (r : Conversion) (s : State) : (storeConversion r s).frm = s.frm := rfl
@[simp] theorem storeConversion_retry (r : Conversion) (s : State) : (storeConversion r s).retry = s.retry := rfl
@[simp] theorem storeConversion_cal (r : Conversion) (s : State) : (storeConversion r s).cal = s.cal := rfl
@[simp] theorem storeConversion_calptr (r : Conversion) (s : State) : (storeConversion r s).calptr = s.calptr := rfl
@[simp] theorem storeConversion_pstg (r : Conversion) (s : State) : (storeConversion r s).pstg = s.pstg := rfl
@[simp] theorem storeConversion_pcnt (r : Conversion) (s : State) : (storeConversion r s).pcnt = s.pcnt := rfl
@[simp] theorem storeConversion_pfrm (r : Conversion) (s : State) : (storeConversion r s).pfrm = s.pfrm := rfl
@[simp] theorem storeConversion_pfrmValid (r : Conversion) (s : State) : (storeConversion r s).pfrmValid = s.pfrmValid := rfl
@[simp] theorem storeConversion_convNeeded (r : Conversion) (s : State) : (storeConversion r s).convNeeded = false := rfl
@[simp] theorem storeConversion_pHasData (r : Conversion) (s : State) : (storeConversion r s).pHasData = s.pHasData := rfl
@[simp] theorem storeConversion_tfine (r : Conversion) (s : State) : (storeConversion r s).tfine = trunc 32 r.tf := rfl
@[simp] theorem storeConversion_tcomp (r : Conversion) (s : State) : (storeConversion r s).tcomp = trunc 32 r.tc := rfl
@[simp] theorem storeConversion_pcomp (r : Conversion) (s : State) : (storeConversion r s).pcomp = r.pc := rfl
@[simp] theorem storeConversion_pzero (r : Conversion) (s : State) : (storeConversion r s).pzero = r.pz := rfl
@[simp] theorem storeConversion_fault (r : Conversion) (s : State) : (storeConversion r s).fault = s.fault := rfl
@[simp] theorem storeConversion_calUnsigned (r : Conversion) (s : State) : (storeConversion r s).calUnsigned = s.calUnsigned := rfl
@[simp] theorem storeConversion_inputs (r : Conversion) (s : State) : (storeConversion r s).inputs = s.inputs := rfl
@[simp] theorem storeConversion_rsps (r : Conversion) (s : State) : (storeConversion r s).rsps = s.rsps := rfl

@[simp] theorem presentFirst_crc (w : CmdWord) (s : State) : (presentFirst w s).crc = s.crc := rfl
@[simp] theorem presentFirst_cnt (w : CmdWord) (s : State) : (presentFirst w s).cnt = s.cnt := rfl
@[simp] theorem presentFirst_stg (w : CmdWord) (s : State) : (presentFirst w s).stg = s.stg := rfl
@[simp] theorem presentFirst_frm (w : CmdWord) (s : State) : (presentFirst w s).frm = s.frm := rfl
@[simp] theorem presentFirst_retry (w : CmdWord) (s : State) : (presentFirst w s).retry = s.retry := rfl
@[simp] theorem presentFirst_cal (w : CmdWord) (s : State) : (presentFirst w s).cal = s.cal := rfl
@[simp] theorem presentFirst_calptr (w : CmdWord) (s : State) : (presentFirst w s).calptr = s.calptr := rfl
@[simp] theorem presentFirst_pstg (w : CmdWord) (s : State) : (presentFirst w s).pstg = s.pstg := rfl
@[simp] theorem presentFirst_pcnt (w : CmdWord) (s : State) : (presentFirst w s).pcnt = s.pcnt := rfl
@[simp] theorem presentFirst_pfrm (w : CmdWord) (s : State) : (presentFirst w s).pfrm = s.pfrm := rfl
@[simp] theorem presentFirst_pfrmValid (w : CmdWord) (s : State) : (presentFirst w s).pfrmValid = s.pfrmValid := rfl
@[simp] theorem presentFirst_convNeeded (w : CmdWord) (s : State) : (presentFirst w s).convNeeded = s.convNeeded := rfl
@[simp] theorem presentFirst_pHasData (w : CmdWord) (s : State) : (presentFirst w s).pHasData = s.pHasData := rfl
@[simp] theorem presentFirst_tfine (w : CmdWord) (s : State) : (presentFirst w s).tfine = s.tfine := rfl
@[simp] theorem presentFirst_tcomp (w : CmdWord) (s : State) : (presentFirst w s).tcomp = s.tcomp := rfl
@[simp] theorem presentFirst_pcomp (w : CmdWord) (s : State) : (presentFirst w s).pcomp = s.pcomp := rfl
@[simp] theorem presentFirst_pzero (w : CmdWord) (s : State) : (presentFirst w s).pzero = s.pzero := rfl
@[simp] theorem presentFirst_fault (w : CmdWord) (s : State) : (presentFirst w s).fault = s.fault := rfl
@[simp] theorem presentFirst_calUnsigned (w : CmdWord) (s : State) : (presentFirst w s).calUnsigned = s.calUnsigned := rfl
@[simp] theorem presentFirst_inputs (w : CmdWord) (s : State) : (presentFirst w s).inputs = .cmd w :: s.inputs := rfl
@[simp] theorem presentFirst_rsps (w : CmdWord) (s : State) : (presentFirst w s).rsps = s.rsps := rfl

@[simp] theorem consume_crc (q : ResultReg) (s : State) : (consume q s).crc = s.crc := by cases q <;> rfl
@[simp] theorem consume_cnt (q : ResultReg) (s : State) : (consume q s).cnt = s.cnt := by cases q <;> rfl
@[simp] theorem consume_stg (q : ResultReg) (s : State) : (consume q s).stg = s.stg := by cases q <;> rfl
@[simp] theorem consume_frm (q : ResultReg) (s : State) : (consume q s).frm = s.frm := by cases q <;> rfl
@[simp] theorem consume_retry (q : ResultReg) (s : State) : (consume q s).retry = s.retry := by cases q <;> rfl
@[simp] theorem consume_cal (q : ResultReg) (s : State) : (consume q s).cal = s.cal := by cases q <;> rfl
@[simp] theorem consume_calptr (q : ResultReg) (s : State) : (consume q s).calptr = s.calptr := by cases q <;> rfl
@[simp] theorem consume_pstg (q : ResultReg) (s : State) : (consume q s).pstg = s.pstg := by cases q <;> rfl
@[simp] theorem consume_pcnt (q : ResultReg) (s : State) : (consume q s).pcnt = s.pcnt := by cases q <;> rfl
@[simp] theorem consume_pfrm (q : ResultReg) (s : State) : (consume q s).pfrm = s.pfrm := by cases q <;> rfl
@[simp] theorem consume_pfrmValid (q : ResultReg) (s : State) : (consume q s).pfrmValid = s.pfrmValid := by cases q <;> rfl
@[simp] theorem consume_convNeeded (q : ResultReg) (s : State) : (consume q s).convNeeded = s.convNeeded := by cases q <;> rfl
@[simp] theorem consume_pHasData (q : ResultReg) (s : State) :
    (consume q s).pHasData = (s.pHasData && q != .pcomp) := by cases q <;> simp [consume]
@[simp] theorem consume_tfine (q : ResultReg) (s : State) : (consume q s).tfine = s.tfine := by cases q <;> rfl
@[simp] theorem consume_tcomp (q : ResultReg) (s : State) : (consume q s).tcomp = s.tcomp := by cases q <;> rfl
@[simp] theorem consume_pcomp (q : ResultReg) (s : State) : (consume q s).pcomp = s.pcomp := by cases q <;> rfl
@[simp] theorem consume_pzero (q : ResultReg) (s : State) : (consume q s).pzero = s.pzero := by cases q <;> rfl
@[simp] theorem consume_fault (q : ResultReg) (s : State) : (consume q s).fault = s.fault := by cases q <;> rfl
@[simp] theorem consume_calUnsigned (q : ResultReg) (s : State) : (consume q s).calUnsigned = s.calUnsigned := by cases q <;> rfl
@[simp] theorem consume_inputs (q : ResultReg) (s : State) : (consume q s).inputs = s.inputs := by cases q <;> rfl
@[simp] theorem consume_rsps (q : ResultReg) (s : State) : (consume q s).rsps = s.rsps := by cases q <;> rfl

@[simp] theorem respondConverted_crc (ov : Bool) (d : Data) (s : State) : (respondConverted ov d s).crc = s.crc := by
  cases ov <;> rfl
@[simp] theorem respondConverted_cnt (ov : Bool) (d : Data) (s : State) : (respondConverted ov d s).cnt = s.cnt := by
  cases ov <;> rfl
@[simp] theorem respondConverted_stg (ov : Bool) (d : Data) (s : State) : (respondConverted ov d s).stg = s.stg := by
  cases ov <;> rfl
@[simp] theorem respondConverted_frm (ov : Bool) (d : Data) (s : State) : (respondConverted ov d s).frm = s.frm := by
  cases ov <;> rfl
@[simp] theorem respondConverted_retry (ov : Bool) (d : Data) (s : State) : (respondConverted ov d s).retry = s.retry := by
  cases ov <;> rfl
@[simp] theorem respondConverted_cal (ov : Bool) (d : Data) (s : State) : (respondConverted ov d s).cal = s.cal := by
  cases ov <;> rfl
@[simp] theorem respondConverted_calptr (ov : Bool) (d : Data) (s : State) : (respondConverted ov d s).calptr = s.calptr := by
  cases ov <;> rfl
@[simp] theorem respondConverted_pstg (ov : Bool) (d : Data) (s : State) : (respondConverted ov d s).pstg = s.pstg := by
  cases ov <;> rfl
@[simp] theorem respondConverted_pcnt (ov : Bool) (d : Data) (s : State) : (respondConverted ov d s).pcnt = s.pcnt := by
  cases ov <;> rfl
@[simp] theorem respondConverted_pfrm (ov : Bool) (d : Data) (s : State) : (respondConverted ov d s).pfrm = s.pfrm := by
  cases ov <;> rfl
@[simp] theorem respondConverted_pfrmValid (ov : Bool) (d : Data) (s : State) : (respondConverted ov d s).pfrmValid = s.pfrmValid := by
  cases ov <;> rfl
@[simp] theorem respondConverted_convNeeded (ov : Bool) (d : Data) (s : State) : (respondConverted ov d s).convNeeded = s.convNeeded := by
  cases ov <;> rfl
@[simp] theorem respondConverted_pHasData (ov : Bool) (d : Data) (s : State) : (respondConverted ov d s).pHasData = s.pHasData := by
  cases ov <;> rfl
@[simp] theorem respondConverted_tfine (ov : Bool) (d : Data) (s : State) : (respondConverted ov d s).tfine = s.tfine := by
  cases ov <;> rfl
@[simp] theorem respondConverted_tcomp (ov : Bool) (d : Data) (s : State) : (respondConverted ov d s).tcomp = s.tcomp := by
  cases ov <;> rfl
@[simp] theorem respondConverted_pcomp (ov : Bool) (d : Data) (s : State) : (respondConverted ov d s).pcomp = s.pcomp := by
  cases ov <;> rfl
@[simp] theorem respondConverted_pzero (ov : Bool) (d : Data) (s : State) : (respondConverted ov d s).pzero = s.pzero := by
  cases ov <;> rfl
@[simp] theorem respondConverted_fault (ov : Bool) (d : Data) (s : State) :
    (respondConverted ov d s).fault = if ov then s.fault ||| FaultBit.ovf.mask else s.fault := by cases ov <;> rfl
@[simp] theorem respondConverted_calUnsigned (ov : Bool) (d : Data) (s : State) : (respondConverted ov d s).calUnsigned = s.calUnsigned := by
  cases ov <;> rfl
@[simp] theorem respondConverted_inputs (ov : Bool) (d : Data) (s : State) : (respondConverted ov d s).inputs = s.inputs := by
  cases ov <;> rfl
@[simp] theorem respondConverted_rsps (ov : Bool) (d : Data) (s : State) :
    (respondConverted ov d s).rsps = s.rsps ++ [⟨if ov then .ovf else .ok, d⟩] := by cases ov <;> rfl

/-- Two states with the same fields are the same state. -/
theorem State.eq_of_fields {s t : State} (h1 : s.crc = t.crc) (h2 : s.cnt = t.cnt) (h3 : s.stg = t.stg) (h4 : s.frm = t.frm)
    (h5 : s.retry = t.retry) (h6 : s.cal = t.cal) (h7 : s.calptr = t.calptr) (h8 : s.pstg = t.pstg) (h9 : s.pcnt = t.pcnt)
    (h10 : s.pfrm = t.pfrm) (h11 : s.pfrmValid = t.pfrmValid) (h12 : s.convNeeded = t.convNeeded)
    (h13 : s.pHasData = t.pHasData) (h14 : s.tfine = t.tfine) (h15 : s.tcomp = t.tcomp) (h16 : s.pcomp = t.pcomp)
    (h17 : s.pzero = t.pzero) (h18 : s.fault = t.fault) (h19 : s.calUnsigned = t.calUnsigned) (h20 : s.inputs = t.inputs)
    (h21 : s.rsps = t.rsps) : s = t := by
  cases s; cases t; simp_all

end Sys2Proof.Machine
end

