-- ==== Sys2Proof/Laws/Ops.lean ====
section
/-! SUPPORT. What the shared operations do, once each: storing a streamed byte (R76), the register map (R42), reading a result
register (R196), and that every command goes on to a next state (R10). -/

namespace Sys2Proof.Machine

/-- The byte at the pointer is the new one, every other byte is as before (R76). -/
theorem getElem_putByte {n : Nat} (a : Vector Byte n) (i : Nat) (b : Byte) (k : Nat) (hk : k < n) :
    (putByte a i b)[k] = if i = k then b else a[k] := by
  simp [putByte, Vector.getElem_setIfInBounds]

/-- A register's number names it (R42). -/
theorem regOf_number (g : Reg) : regOf g.number = some g := by
  cases g with
  | result q => cases q <;> decide
  | frm i => revert i; decide
  | stg i => revert i; decide
  | pfrm i => revert i; decide
  | pstg i => revert i; decide
  | cal i => revert i; decide
  | coef i => revert i; decide
  | _ => decide

/-- A number names at most the register that has it (R42). -/
theorem number_of_regOf (r : Byte) (g : Reg) (h : regOf r = some g) : g.number = r := by
  simpa [regOf] using List.find?_some h

/-- A read of a reserved number (R42, R213). -/
theorem execRd_reserved (r : Byte) (s : State) (h : regOf r = none) : execRd r s = .next (faultRespond .illegal 0 s) := by
  simp [execRd, h]

/-- A read of a result register (R196). -/
theorem execRd_result (q : ResultReg) (s : State) : execRd (Reg.number (.result q)) s = .next (readResult q s) := by
  simp [execRd, regOf_number]

/-- A read of any other register (R193). -/
theorem execRd_plain (g : Reg) (hg : ∀ q, g ≠ .result q) (s : State) :
    execRd g.number s = .next (respond .ok (regRead g s) s) := by
  cases g with
  | result q => exact absurd rfl (hg q)
  | _ => simp only [execRd, regOf_number]

/-- The three things a read of a result register can be: refused, converting, or a cached value (R196). -/
theorem readResult_cases (q : ResultReg) (s : State) :
    ((s.pfrmValid = false ∨ s.convNeeded = true ∧ calValid s = false) ∧ readResult q s = faultRespond .nodata 0 s) ∨
    (s.pfrmValid = true ∧ s.convNeeded = true ∧ calValid s = true ∧
      readResult q s = respondConverted (conversionOf s).ov
        (resultValue q (consume q (storeConversion (conversionOf s) s))) (consume q (storeConversion (conversionOf s) s))) ∨
    (s.pfrmValid = true ∧ s.convNeeded = false ∧ readResult q s = respond .ok (resultValue q s) (consume q s)) := by
  unfold readResult
  cases h1 : s.pfrmValid <;> cases h2 : s.convNeeded <;> cases h3 : calValid s <;> simp

end Sys2Proof.Machine
end

