-- ==== Sys2Proof/Laws/Exec.lean ====
section
/-! SUPPORT. What `exec` can do, said once for all commands, so that no later proof unfolds a meaning. -/

namespace Sys2Proof.Machine

/-- Every command goes on to a next state (R10). -/
theorem exec_next (i : Instr) (s : State) : ∃ t, exec i s = .next t := by
  cases i with
  | rd r => simp only [exec, execRd]; split <;> exact ⟨_, rfl⟩
  | crcByte b => simp only [exec, execCrcByte]; split <;> exact ⟨_, rfl⟩
  | crcCheck b => simp only [exec, execCrcCheck]; split <;> [exact ⟨_, rfl⟩; (split <;> exact ⟨_, rfl⟩)]
  | calInit => simp only [exec, execCalInit]; split <;> exact ⟨_, rfl⟩
  | calByte => simp only [exec, execCalByte]; split <;> exact ⟨_, rfl⟩
  | pByte => simp only [exec, execPByte]; split <;> exact ⟨_, rfl⟩
  | pCommit => simp only [exec, execPCommit]; split <;> exact ⟨_, rfl⟩
  | convert => simp only [exec, execConvert]; split <;> exact ⟨_, rfl⟩
  | _ => exact ⟨_, rfl⟩

/-- Everything a command can do: one case for each path of each meaning, with its guard. -/
theorem exec_cases (i : Instr) (s t : State) (h : exec i s = .next t) :
    (i = .nop ∧ t = respond .ok 0 s) ∨
    (∃ r, i = .rd r ∧ regOf r = none ∧ t = faultRespond .illegal 0 s) ∨
    (∃ g, i = .rd (Reg.number g) ∧ (∀ q, g ≠ .result q) ∧ t = respond .ok (regRead g s) s) ∨
    (∃ q, i = .rd (Reg.number (.result q)) ∧ t = readResult q s) ∨
    (i = .crcInit ∧ t = respond .ok 0 (initCrcUnit s)) ∨
    (∃ b, i = .crcByte b ∧ s.cnt.val < 6 ∧ t = respond .ok 0
        { s with stg := putByte s.stg s.cnt b, crc := crcStep s.crc b, cnt := s.cnt + 1 }) ∨
    (∃ b, i = .crcByte b ∧ ¬ s.cnt.val < 6 ∧ t = faultRespond .badlen 0 { s with cnt := 7 }) ∨
    (∃ b, i = .crcCheck b ∧ s.cnt.val ≠ 6 ∧ t = faultRespond .badlen (crcInfo s.crc b) (initCrcUnit s)) ∨
    (∃ b, i = .crcCheck b ∧ s.cnt.val = 6 ∧ s.crc = b ∧ t = respond .ok (crcInfo s.crc b)
        { initCrcUnit s with frm := wholeFrame s.stg b, retry := false }) ∨
    (∃ b, i = .crcCheck b ∧ s.cnt.val = 6 ∧ s.crc ≠ b ∧ t = respond .mismatch (crcInfo s.crc b)
        { initCrcUnit s with retry := true }) ∨
    (∃ b, i = .hStatus b ∧ t = respond .ok 0 { s with frm := putByte s.frm 0 b }) ∨
    (i = .hClear ∧ t = respond .ok 0 { initCrcUnit s with frm := Vector.replicate 7 0, retry := false }) ∨
    (i = .calInit ∧ s.calptr.val = 26 ∧ t = faultRespond .locked 0 s) ∨
    (i = .calInit ∧ s.calptr.val ≠ 26 ∧ t = respond .ok 0 { s with calptr := 0 }) ∨
    (∃ b, i = .calByte b ∧ s.calptr.val = 26 ∧ t = faultRespond .locked 0 s) ∨
    (∃ b, i = .calByte b ∧ s.calptr.val ≠ 26 ∧ t = respond .ok 0
        { s with cal := putByte s.cal s.calptr b, calptr := s.calptr + 1 }) ∨
    (i = .pInit ∧ t = respond .ok 0 { s with pcnt := 0 }) ∨
    (∃ b, i = .pByte b ∧ s.pcnt.val < 6 ∧ t = respond .ok 0
        { s with pstg := putByte s.pstg s.pcnt b, pcnt := s.pcnt + 1 }) ∨
    (∃ b, i = .pByte b ∧ ¬ s.pcnt.val < 6 ∧ t = faultRespond .badlen 0 { s with pcnt := 7 }) ∨
    (i = .pCommit ∧ s.pcnt.val ≠ 6 ∧ t = faultRespond .badlen 0 { s with pcnt := 0 }) ∨
    (i = .pCommit ∧ s.pcnt.val = 6 ∧ t = respond .ok 0
        { s with pfrm := s.pstg, pfrmValid := true, convNeeded := true, pHasData := true, pcnt := 0 }) ∨
    (i = .convert ∧ (s.pfrmValid = false ∨ s.calptr.val ≠ 26) ∧ t = faultRespond .nodata 0 s) ∨
    (i = .convert ∧ s.pfrmValid = true ∧ s.calptr.val = 26 ∧
      t = respondConverted (conversionOf s).ov 0 (storeConversion (conversionOf s) s)) := by
  cases i with
  | rd r =>
    simp only [exec] at h
    cases hr : regOf r with
    | none => rw [execRd_reserved r s hr] at h; cases h; exact .inr (.inl ⟨r, rfl, hr, rfl⟩)
    | some g =>
      have := number_of_regOf r g hr; subst this
      by_cases hg : ∃ q, g = .result q
      · obtain ⟨q, rfl⟩ := hg
        rw [execRd_result] at h; cases h
        exact .inr (.inr (.inr (.inl ⟨q, rfl, rfl⟩)))
      · push Not at hg
        rw [execRd_plain g hg] at h; cases h
        exact .inr (.inr (.inl ⟨g, rfl, hg, rfl⟩))
  | crcByte b => simp only [exec, execCrcByte] at h; split at h <;> cases h <;> simp_all
  | crcCheck b =>
    simp only [exec, execCrcCheck] at h
    split at h
    · cases h; simp_all
    · split at h <;> cases h <;> simp_all
  | calInit => simp only [exec, execCalInit] at h; split at h <;> cases h <;> simp_all [calValid]
  | calByte => simp only [exec, execCalByte] at h; split at h <;> cases h <;> simp_all [calValid]
  | pByte => simp only [exec, execPByte] at h; split at h <;> cases h <;> simp_all
  | pCommit => simp only [exec, execPCommit] at h; split at h <;> cases h <;> simp_all
  | convert => simp only [exec, execConvert] at h; split at h <;> cases h <;> simp_all [calValid]
  | nop => simp only [exec, execNop] at h; cases h; simp
  | crcInit => simp only [exec, execCrcInit] at h; cases h; simp
  | hStatus => simp only [exec, execHStatus] at h; cases h; simp
  | hClear => simp only [exec, execHClear] at h; cases h; simp
  | pInit => simp only [exec, execPInit] at h; cases h; simp

end Sys2Proof.Machine
end

