-- ==== Sys2Proof/Laws/PerInstr.lean ====
section
/-! SUPPORT. Statements made instruction by instruction. Family EncodesWellFormed: the word of an instruction has well-formed
fields (R81, R85), whose `op` is a Z opcode exactly for the instructions of format Z. -/

namespace Sys2Proof.Laws.EncodesWellFormed

/-- The fields of the instruction's word are well formed and agree with its format (R81). -/
def Statement (i : Instr) : Prop :=
  (fieldsOf (encode i)).wellFormed = true ∧ zOps.contains (cmdOp (encode i)) = decide (i.format = .z)

/-- A word whose opcode is one of the six of formats B and R has well-formed fields, whatever its `arg` (R85). -/
theorem argOp_fields (op arg : Byte) (h : op ∈ argOps) :
    (fieldsOf (wordOf op arg)).wellFormed = true ∧ zOps.contains (cmdOp (wordOf op arg)) = false := by
  have hz : zOps.contains op = false := by revert op; decide
  have ha : argOps.contains op = true := by simpa using h
  simp [fieldsOf, Fields.wellFormed, Fields.opAssigned, Fields.argAllowed, ha, hz, -List.contains_eq_mem]

theorem nop : Statement .nop := by constructor <;> decide
theorem rd (reg : Byte) : Statement (.rd reg) := argOp_fields _ reg (by decide)
theorem crcInit : Statement .crcInit := by constructor <;> decide
theorem crcByte (imm8 : Byte) : Statement (.crcByte imm8) := argOp_fields _ imm8 (by decide)
theorem crcCheck (imm8 : Byte) : Statement (.crcCheck imm8) := argOp_fields _ imm8 (by decide)
theorem hStatus (imm8 : Byte) : Statement (.hStatus imm8) := argOp_fields _ imm8 (by decide)
theorem hClear : Statement .hClear := by constructor <;> decide
theorem calInit : Statement .calInit := by constructor <;> decide
theorem calByte (imm8 : Byte) : Statement (.calByte imm8) := argOp_fields _ imm8 (by decide)
theorem pInit : Statement .pInit := by constructor <;> decide
theorem pByte (imm8 : Byte) : Statement (.pByte imm8) := argOp_fields _ imm8 (by decide)
theorem pCommit : Statement .pCommit := by constructor <;> decide
theorem convert : Statement .convert := by constructor <;> decide

end Sys2Proof.Laws.EncodesWellFormed
end

