-- ==== Sys2Proof/Laws/Step.lean ====
section
/-! SUPPORT. What taking an input, resetting and one step can do, said once (R10, R88, R240). -/

namespace Sys2Proof.Machine

theorem takeInput_nil (s : State) (h : s.inputs = []) : takeInput s = none := by simp [takeInput, h]

theorem takeInput_cons (s : State) (i : Input) (rest : List Input) (h : s.inputs = i :: rest) :
    takeInput s = some (i, { s with inputs := rest }) := by simp [takeInput, h]

/-- The four things a step can be: nothing presented, a reset, a command, an illegal word. -/
theorem step_cases (s : State) :
    (s.inputs = [] ∧ step s = .next s) ∨
    (∃ rest, s.inputs = .rst :: rest ∧ step s = .next (hardwareReset { s with inputs := rest })) ∨
    (∃ w rest i, s.inputs = .cmd w :: rest ∧ decode w = .ok i ∧ step s = exec i { s with inputs := rest }) ∨
    (∃ w rest e, s.inputs = .cmd w :: rest ∧ decode w = .error e ∧
      step s = .next (illegalCommand { s with inputs := rest })) := by
  match h : s.inputs with
  | [] => exact .inl ⟨rfl, by simp [step, takeInput_nil s h]⟩
  | .rst :: rest => exact .inr (.inl ⟨rest, rfl, by simp [step, takeInput_cons s _ _ h]⟩)
  | .cmd w :: rest =>
    match hd : decode w with
    | .ok i => exact .inr (.inr (.inl ⟨w, rest, i, rfl, hd, by simp [step, takeInput_cons s _ _ h, hd]⟩))
    | .error e => exact .inr (.inr (.inr ⟨w, rest, e, rfl, hd, by simp [step, takeInput_cons s _ _ h, hd]⟩))

end Sys2Proof.Machine
end

