-- ==== Sys2Proof/Machine/Assembler.lean ====
section
/-! DEFINITION. The textual form of a command (R91): one command a line, `;` starts a comment, an operand is a number in decimal
or with `0x`, or, for `RD`, a register name of R42. What R91 leaves open (blanks, letter case of hexadecimal digits) is log
entry 10. -/

namespace Sys2Proof.Machine

/-- A register's name in R42. -/
def Reg.name : Reg → String
  | .status => "STATUS"
  | .fault => "FAULT"
  | .crc => "CRC"
  | .cnt => "CNT"
  | .calptr => "CALPTR"
  | .pcnt => "PCNT"
  | .hraw => "HRAW"
  | .traw => "TRAW"
  | .hum => "HUM"
  | .tempc => "TEMPC"
  | .tempf => "TEMPF"
  | .adcT => "ADC_T"
  | .adcP => "ADC_P"
  | .result .tfine => "TFINE"
  | .result .tcomp => "TCOMP"
  | .result .pcomp => "PCOMP"
  | .frm i => "FRM[" ++ toString i.val ++ "]"
  | .stg i => "STG[" ++ toString i.val ++ "]"
  | .pfrm i => "PFRM[" ++ toString i.val ++ "]"
  | .pstg i => "PSTG[" ++ toString i.val ++ "]"
  | .cal i => "CAL[" ++ toString i.val ++ "]"
  | .coef k => "COEF[" ++ toString k.val ++ "]"

/-- Why a line is no command (R91). -/
inductive AsmError where
  | unknownMnemonic
  | missingOperand
  | unexpectedOperand
  | badOperand
  deriving DecidableEq, Repr

/-- The words of a line: maximal runs of characters that are not blank. -/
def splitBlanks : List Char → List Char → List (List Char)
  | [], cur => if cur.isEmpty then [] else [cur.reverse]
  | ch :: rest, cur =>
    if ch = ' ' ∨ ch = '\t' then
      if cur.isEmpty then splitBlanks rest [] else cur.reverse :: splitBlanks rest []
    else splitBlanks rest (ch :: cur)

/-- The value of a digit in a base up to 16. -/
def digitValue (base : Nat) (ch : Char) : Option Nat :=
  let n := ch.toNat
  let v := if 48 ≤ n ∧ n ≤ 57 then n - 48 else if 65 ≤ n ∧ n ≤ 70 then n - 55 else if 97 ≤ n ∧ n ≤ 102 then n - 87 else base
  if v < base then some v else none

/-- A run of digits read in a base. -/
def digitsValue (base : Nat) : List Char → Nat → Option Nat
  | [], acc => some acc
  | ch :: rest, acc => (digitValue base ch).bind (fun d => digitsValue base rest (acc * base + d))

/-- A number in 0..255, decimal or with `0x` in hexadecimal (R91). -/
def numberValue (t : List Char) : Option Byte :=
  let n := match t with
    | [] => none
    | '0' :: 'x' :: d :: ds => digitsValue 16 (d :: ds) 0
    | d :: ds => digitsValue 10 (d :: ds) 0
  n.bind (fun v => if v < 256 then some (BitVec.ofNat 8 v) else none)

/-- The operand of a command: a number, or for format R a register name (R91). -/
def operandValue (f : Format) (t : List Char) : Option Byte :=
  match numberValue t with
  | some v => some v
  | none => if f = .r then (Reg.all.find? (fun g => g.name.toList == t)).map Reg.number else none

/-- One line of text: none for a line that holds no command (R91). -/
def assembleLine (line : List Char) : Except AsmError (Option Instr) :=
  match splitBlanks (line.takeWhile (· ≠ ';')) [] with
  | [] => .ok none
  | m :: operands =>
    match opcodeTable.find? (fun r => r.mnemonic.toList == m) with
    | none => .error .unknownMnemonic
    | some row =>
      match (row.build 0).format, operands with
      | .z, [] => .ok (some (row.build 0))
      | .z, _ => .error .unexpectedOperand
      | _, [] => .error .missingOperand
      | f, [t] =>
        match operandValue f t with
        | some v => .ok (some (row.build v))
        | none => .error .badOperand
      | _, _ => .error .unexpectedOperand

end Sys2Proof.Machine
end

