-- ==== Sys2Proof/Tests/Slice0.lean ====
section
/-! SUPPORT. Tests of this model, each of one small state, with expected results from file 95 of the spec (the vector is named
in the comment), and for every statement that has hypotheses a witness that meets them. -/

namespace Sys2Proof.Tests

open Sys2Proof.Machine

/-! ### States and helpers -/

/-- The state a command leaves. -/
def after (i : Instr) (s : State) : State :=
  match exec i s with
  | .next t => t
  | _ => s

/-- The response a command gives. -/
def answer (i : Instr) (s : State) : Option Response := (after i s).rsps.getLast?

/-- The state after reset with `CAL_UNSIGNED = {0, 3}`. -/
def base : State := State.resetWith .t1p1

/-- V51's calibration block. -/
def calV51 : Vector Byte 26 :=
  #v[0x70, 0x6B, 0x43, 0x67, 0x18, 0xFC, 0x7D, 0x8E, 0x43, 0xD6, 0xD0, 0x0B, 0x27, 0x0B, 0x8C, 0x00, 0xF9, 0xFF, 0x8C, 0x3C,
    0xF8, 0xC6, 0x70, 0x17, 0x00, 0x00]

/-- V50's calibration block. -/
def calV50 : Vector Byte 26 :=
  #v[0xFF, 0xFF, 0x00, 0x80, 0xFF, 0x7F, 0x00, 0x80, 0x01, 0x00, 0x00, 0x00, 0xFF, 0xFF, 0x00, 0x00, 0x00, 0x00, 0x00, 0x00,
    0x00, 0x00, 0x34, 0x12, 0xDE, 0xAD]

/-- V52's first pressure frame. -/
def pfrmV52 : Vector Byte 6 := #v[0x65, 0x5A, 0xC0, 0x7E, 0xED, 0x00]

/-- V51's calibration and V52's frame, before the conversion. -/
def loaded : State :=
  { base with
    cal := calV51, calptr := 26, pstg := pfrmV52, pfrm := pfrmV52, pfrmValid := true, convNeeded := true, pHasData := true }

/-- The same after the conversion of V40. -/
def converted : State := { loaded with tfine := 128422, tcomp := 2508, pcomp := 25767233, convNeeded := false }

/-- V17's frame, received and not yet checked. -/
def received : State := { base with stg := #v[0x1C, 0x80, 0x00, 0x05, 0x99, 0x9A], crc := 0xE8, cnt := 6 }

/-- V47 and V45's coefficients leave 0 where they name none. -/
def zeroCoefs : Coefs := ⟨0, 0, 0, 0, 0, 0, 0, 0, 0, 0, 0, 0⟩

/-! ### Well-formedness: a term each check refuses (R81, R85) -/

theorem test_wellFormed_accepts :
    (Fields.mk 0x50 0).wellFormed = true ∧ (Fields.mk 0x41 0xFF).wellFormed = true := by decide

/-- V70. -/
theorem test_wellFormed_refuses_unassigned_op :
    (Fields.mk 0x22 0).opAssigned = false ∧ (Fields.mk 0x22 0).wellFormed = false := by decide

/-- V61. -/
theorem test_wellFormed_refuses_nonzero_arg :
    (Fields.mk 0x00 1).argAllowed = false ∧ (Fields.mk 0x00 1).wellFormed = false := by decide

/-! ### Decoding: words written out bit by bit, `op` then `arg` (R80, R84; V60 to V75) -/

theorem test_decode_nop : decode 0b00000000_00000000 = .ok .nop := by rfl
theorem test_decode_rd : decode 0b00000001_01100011 = .ok (.rd 0x63) := by rfl
theorem test_decode_crcInit : decode 0b00010000_00000000 = .ok .crcInit := by rfl
theorem test_decode_crcByte : decode 0b00010001_10100101 = .ok (.crcByte 0xA5) := by rfl
theorem test_decode_crcCheck : decode 0b00010010_11101000 = .ok (.crcCheck 0xE8) := by rfl
theorem test_decode_hStatus : decode 0b00100000_10011000 = .ok (.hStatus 0x98) := by rfl
theorem test_decode_hClear : decode 0b00100001_00000000 = .ok .hClear := by rfl
theorem test_decode_calInit : decode 0b00110000_00000000 = .ok .calInit := by rfl
theorem test_decode_calByte : decode 0b00110001_01110000 = .ok (.calByte 0x70) := by rfl
theorem test_decode_pInit : decode 0b01000000_00000000 = .ok .pInit := by rfl
theorem test_decode_pByte : decode 0b01000001_01000010 = .ok (.pByte 0x42) := by rfl
theorem test_decode_pCommit : decode 0b01000010_00000000 = .ok .pCommit := by rfl
theorem test_decode_convert : decode 0b01010000_00000000 = .ok .convert := by rfl

/-- V61, V65, V73: a Z opcode with a nonzero `arg`. -/
theorem test_decode_rejects_nonzero_arg :
    decode 0x0001 = .error (.nonzeroArg 0x00 0x01) ∧ decode 0x1080 = .error (.nonzeroArg 0x10 0x80) ∧
    decode 0x4201 = .error (.nonzeroArg 0x42 0x01) := ⟨rfl, rfl, rfl⟩

/-- V70, V75. -/
theorem test_decode_rejects_unassigned_op :
    ∀ w ∈ [0x2200#16, 0x0200, 0x1300, 0x4300, 0x5100, 0x8000, 0xFFFF], decode w = .error (.unassignedOp (cmdOp w)) := by
  intro w hw
  simp only [List.mem_cons, List.not_mem_nil, or_false] at hw
  rcases hw with rfl | rfl | rfl | rfl | rfl | rfl | rfl <;> rfl

theorem test_decodeTableWord : decodeTableWord 16 0x0114 = some (.rd 0x14) ∧ decodeTableWord 16 0x2200 = none := by decide

/-! ### The step -/

theorem test_withFetchWord_runs_the_word (s : State) :
    step (s.withFetchWord 16 0x3170) = exec (.calByte 0x70) s := by rfl

/-- V80. -/
theorem test_step_illegal_word :
    step (base.withFetchWord 16 0xFF00) = .next { base with fault := 1, rsps := [⟨.illegal, 0⟩] } := by rfl

/-- R240. -/
theorem test_step_rst :
    step { loaded with inputs := [.rst], fault := 0x1F, crc := 3 } = .next base := by rfl

/-! ### The CRC function (V10 to V19c, the bit-level trace, R106) -/

theorem test_crc8_vectors :
    crc8 [] = 0xFF ∧ crc8 [0xBE, 0xEF] = 0x92 ∧ crc8 [0x31, 0x32, 0x33, 0x34, 0x35, 0x36, 0x37, 0x38, 0x39] = 0xF7 ∧
    crc8 [0x1C, 0x80, 0x00, 0x05, 0x99, 0x9A] = 0xE8 ∧ crc8 [0x1C, 0x80, 0x00, 0x05, 0x99, 0x9B] = 0xD9 := by decide +kernel

theorem test_crcStep_trace : crcStep 0xFF 0xBE = 0x0C ∧ crcStep 0x0C 0xEF = 0x92 ∧ crcShift 0x6A = 0xD4 := by decide

/-! ### The commands, at most two tests each -/

theorem test_nop : after .nop loaded = { loaded with rsps := [⟨.ok, 0⟩] } := by decide

/-- V50: `RD COEF[3]` under the two values of `CAL_UNSIGNED`. -/
theorem test_rd_coef :
    answer (.rd 0x63) { base with cal := calV50 } = some ⟨.ok, 0x00008000⟩ ∧
    answer (.rd 0x63) { base with cal := calV50, calUnsigned := .t1 } = some ⟨.ok, 0xFFFF8000⟩ := by decide

/-- V40, and V84 (`RD PCOMP` at reset). -/
theorem test_rd_pcomp :
    after (.rd 0x14) loaded = { converted with pHasData := false, rsps := [⟨.ok, 25767233⟩] } ∧
    after (.rd 0x14) base = { base with fault := 8, rsps := [⟨.nodata, 0⟩] } := by decide +kernel

/-- V30. -/
theorem test_crcInit :
    after .crcInit { base with crc := 0x92, cnt := 2 } = { base with rsps := [⟨.ok, 0⟩] } := by decide

/-- V31. -/
theorem test_crcByte_first :
    after (.crcByte 0xBE) base =
      { base with crc := 0x0C, cnt := 1, stg := #v[0xBE, 0, 0, 0, 0, 0], rsps := [⟨.ok, 0⟩] } := by decide

/-- V35. -/
theorem test_crcByte_seventh :
    after (.crcByte 0x06) received = { received with cnt := 7, fault := 2, rsps := [⟨.badlen, 0⟩] } := by decide

/-- V33. -/
theorem test_crcCheck_match :
    after (.crcCheck 0xE8) { received with retry := true } =
      { received with
        crc := 0xFF, cnt := 0, frm := #v[0x1C, 0x80, 0x00, 0x05, 0x99, 0x9A, 0xE8], rsps := [⟨.ok, 0x0000E8E8⟩] } := by
  decide

/-- V34, and V82 (refused although computed equals received). -/
theorem test_crcCheck_mismatch_and_refusal :
    after (.crcCheck 0xE9) received =
      { received with crc := 0xFF, cnt := 0, retry := true, rsps := [⟨.mismatch, 0x0000E8E9⟩] } ∧
    after (.crcCheck 0xFF) base = { base with fault := 2, rsps := [⟨.badlen, 0x0000FFFF⟩] } := by decide

/-- V29a. -/
theorem test_hStatus :
    (after (.hStatus 0x98) base).frm = #v[0x98, 0, 0, 0, 0, 0, 0] ∧
    answer (.rd 0x00) (after (.hStatus 0x98) base) = some ⟨.ok, 0x00000006⟩ := by decide

/-- V29. -/
theorem test_hClear :
    after .hClear { received with frm := #v[0x1C, 0x80, 0x00, 0x05, 0x99, 0x9A, 0xE8], retry := true } =
      { base with stg := received.stg, rsps := [⟨.ok, 0⟩] } := by decide

/-- V53. -/
theorem test_calInit :
    after .calInit { base with calptr := 9, cal := calV51 } = { base with cal := calV51, rsps := [⟨.ok, 0⟩] } ∧
    after .calInit loaded = { loaded with fault := 4, rsps := [⟨.locked, 0⟩] } := by decide

/-- V53: the 26th byte locks. -/
theorem test_calByte_locks :
    calValid (after (.calByte 0x00) { base with calptr := 25 }) = true ∧
    (after (.calByte 0x70) base).cal[0] = 0x70 ∧ (after (.calByte 0x70) base).calptr = 1 := by decide

/-- V53. -/
theorem test_calByte_locked : after (.calByte 0x55) loaded = { loaded with fault := 4, rsps := [⟨.locked, 0⟩] } := by decide

/-- V53. -/
theorem test_pInit : after .pInit { base with pcnt := 4 } = { base with rsps := [⟨.ok, 0⟩] } := by decide

/-- V53, and the first byte. -/
theorem test_pByte :
    after (.pByte 0x07) { loaded with pcnt := 6 } = { loaded with pcnt := 7, fault := 2, rsps := [⟨.badlen, 0⟩] } ∧
    after (.pByte 0x65) base = { base with pcnt := 1, pstg := #v[0x65, 0, 0, 0, 0, 0], rsps := [⟨.ok, 0⟩] } := by decide

/-- V53. -/
theorem test_pCommit :
    after .pCommit { base with pcnt := 6, pstg := pfrmV52 } =
      { base with
        pstg := pfrmV52, pfrm := pfrmV52, pfrmValid := true, convNeeded := true, pHasData := true, rsps := [⟨.ok, 0⟩] } ∧
    after .pCommit { loaded with pcnt := 1 } = { loaded with fault := 2, rsps := [⟨.badlen, 0⟩] } := by decide

/-- V40. -/
theorem test_convert_example : after .convert loaded = { converted with rsps := [⟨.ok, 0⟩] } := by decide +kernel

/-- V41: the same inputs with `CAL_UNSIGNED = {0}` overflow [O28]. -/
theorem test_convert_overflow :
    after .convert { loaded with calUnsigned := .t1 } =
      { converted with calUnsigned := .t1, pcomp := 4264465455, fault := 0x10, rsps := [⟨.ovf, 0⟩] } := by decide +kernel

/-! ### Fields, scaler, arithmetic, compensation -/

/-- V23 and V25. -/
theorem test_humidity_fields :
    hraw #v[0x1C, 0x6B, 0x85, 0x15, 0xE1, 0x47, 0x9C] = 440401 ∧ traw #v[0x1C, 0x6B, 0x85, 0x15, 0xE1, 0x47, 0x9C] = 385351 ∧
    hraw #v[0, 0, 0, 1, 0, 0, 0] = 0 ∧ traw #v[0, 0, 0, 1, 0, 0, 0] = 65536 := by decide

/-- V23 and V27. -/
theorem test_scaler :
    hum #v[0x1C, 0x6B, 0x85, 0x15, 0xE1, 0x47, 0x9C] = 44040100 ∧ tempC #v[0x98, 0, 0, 0, 0, 1, 0] = -52428600 ∧
    trunc 32 (tempF #v[0x98, 0, 0, 0, 0, 1, 0]) = 0xFC600168 := by decide

/-- V52. -/
theorem test_adc_fields :
    adcP #v[0x12, 0x34, 0x56, 0x78, 0x9A, 0xBC] = 74565 ∧ adcT #v[0x12, 0x34, 0x56, 0x78, 0x9A, 0xBC] = 493995 := by decide

/-- V51. -/
theorem test_coefs :
    coefs .t1p1 calV51 = ⟨27504, 26435, -1000, 36477, -10685, 3024, 2855, 140, -7, 15500, -14600, 6000⟩ ∧
    (coefs .t1 calV51).P1 = -29059 := by decide

/-- File 95, 2.5, first paragraph. -/
theorem test_width_operators :
    asr (-257) 8 = -2 ∧ asr (-2) 11 = -1 ∧ sdiv 7 (-2) = -3 ∧ sdiv (-7) (-2) = 3 ∧ wrap 32 4294836225 = -131071 ∧
    wrap 32 (2 ^ 31) = -2 ^ 31 ∧ trunc 32 (-30501841) = 4264465455 := by decide +kernel

/-- V40's intermediate values. -/
theorem test_quotient_steps :
    (quotient (coefs .t1p1 calV51) 415148 98104795527812 597560748).q = 6600644165 ∧
    (quotient (coefs .t1p1 calV51) 415148 98104795527812 597560748).g2 = -183810053 ∧
    (quotient (coefs .t1p1 calV51) 415148 98104795527812 597560748).pf = 25767233 := by decide +kernel

/-- V45: [O1] and [O2] overflow and wrap. -/
theorem test_stageT_overflow :
    (stageT { zeroCoefs with T2 := 32767 } 1048575).tf = -80 ∧ (stageT { zeroCoefs with T2 := 32767 } 1048575).tc = -2 ∧
    (stageT { zeroCoefs with T2 := 32767 } 1048575).steps = [true, true, false, false, false, false] := by decide +kernel

/-- V44: floor, not truncation. -/
theorem test_stageT_negative : (stageT (coefs .t1p1 calV51) 0).var2 = -11273 ∧ (stageT (coefs .t1p1 calV51) 0).tc = -14088 := by
  decide +kernel

/-- V43: a zero denominator with `P1 = 36477`. -/
theorem test_zero_denominator :
    convert { zeroCoefs with T2 := 23152, T3 := 4027, P1 := 36477, P2 := -32768 } 741440 415148 =
      ⟨1176576, 22980, 0, true, List.replicate 18 false⟩ := by decide +kernel

/-- V47: [O18] and [O28] overflow. -/
theorem test_overflow_steps :
    (convert { zeroCoefs with T1 := 27504, T2 := 26435, T3 := -1000, P1 := 65535, P2 := 32767 } 519888 415148).pc = 4279496755 ∧
    (convert { zeroCoefs with T1 := 27504, T2 := 26435, T3 := -1000, P1 := 65535, P2 := 32767 } 519888 415148).steps =
      List.replicate 17 false ++ [true] ++ List.replicate 9 false ++ [true] := by decide +kernel

/-! ### Text and sequences -/

/-- R91: the textual form. -/
theorem test_assemble :
    assembleLine "CRC.BYTE 0x1C ; first byte".toList = .ok (some (.crcByte 0x1C)) ∧
    assembleLine "RD COEF[11]".toList = .ok (some (.rd 0x6B)) ∧
    assembleLine "CONVERT 1".toList = .error .unexpectedOperand ∧ assembleLine "; nothing".toList = .ok none := by
  decide +kernel

/-- R92: a pseudo-instruction, and R257: a frame read that ends in a bus error. -/
theorem test_sequences :
    (Pseudo.hframe #v[1, 2, 3, 4, 5, 6] 7).expand =
      [.crcInit, .crcByte 1, .crcByte 2, .crcByte 3, .crcByte 4, .crcByte 5, .crcByte 6, .crcCheck 7] ∧
    (HostOp.hCallback (some 0x18) .busError).commands = [.hStatus 0x18, .crcInit] := by decide

/-- R194: an accessor's command and what its data means (V25: -37.5 degrees C). -/
theorem test_accessor :
    Accessor.hTemperature.command = .rd 0x0B ∧ Accessor.hTemperature.value 0xFDA80000 = .quantity (-75 / 2) := by
  have h : ((0xFDA80000 : Data)).toInt = -39321600 := by decide
  refine ⟨by decide, ?_⟩
  simp only [Accessor.value, sext, h]
  norm_num

/-! ### Witnesses: for every statement with hypotheses, states and operands that meet them -/

theorem witness_EncodeOfDecodeIsTheWord : decode 0x11A5 = .ok (.crcByte 0xA5) := by rfl

/-- Every clause: the seven Z opcodes, the six others, a Z opcode with `arg = 1`, an unassigned opcode. -/
theorem witness_DecodingFollowsOpAndArg :
    (∀ op ∈ [0x00#8, 0x10, 0x21, 0x30, 0x40, 0x42, 0x50, 0x01, 0x11, 0x12, 0x20, 0x31, 0x41],
      (wordOf op 0).toNat = op.toNat * 256 + (0#8).toNat) ∧
    ((0x5001#16).toNat = (0x50#8).toNat * 256 + (0x01#8).toNat ∧ (0x01#8) ≠ 0 ∧
      0x50#8 ∈ [0x00#8, 0x10, 0x21, 0x30, 0x40, 0x42, 0x50]) ∧
    (0x02FF#16).toNat = (0x02#8).toNat * 256 + (0xFF#8).toNat ∧
      0x02#8 ∉ [0x00#8, 0x10, 0x21, 0x30, 0x40, 0x42, 0x50, 0x01, 0x11, 0x12, 0x20, 0x31, 0x41] := by decide

theorem witness_IllegalWordSetsOneStickyBit :
    ({ base with inputs := [.cmd 0x2200, .cmd 0x0000] } : State).inputs = .cmd 0x2200 :: [.cmd 0x0000] ∧
    (∀ r ∈ opcodeTable, (0x2200#16) &&& r.mask ≠ r.pattern) ∧ decode 0x0000 = .ok .nop := ⟨rfl, by decide, rfl⟩

theorem witness_StepRunsTheDecodedCommand :
    ({ base with inputs := [.cmd 0x5000] } : State).inputs = .cmd 0x5000 :: [] ∧ decode 0x5000 = .ok .convert := ⟨rfl, rfl⟩

theorem witness_StepIsTotal :
    base.inputs = [] ∧ ({ base with inputs := [.rst] } : State).inputs = .rst :: [] ∧
    step { base with inputs := [.rst] } = .next base := ⟨rfl, rfl, rfl⟩

theorem witness_HardwareResetValuesAndItsPrivileges :
    ({ loaded with inputs := [.rst] } : State).inputs = .rst :: [] ∧
    step { loaded with inputs := [.cmd 0x3155], fault := 1 } = .next { loaded with fault := 5, rsps := [⟨.locked, 0⟩] } ∧
    ({ loaded with inputs := [.cmd 0x3155], fault := 1 } : State).inputs.head? ≠ some .rst ∧
    loaded.calptr.val = 26 ∧ loaded.pfrmValid = true := ⟨rfl, rfl, by decide, rfl, rfl⟩

/-- The two clauses on both sides of six bytes. -/
theorem witness_CrcByteStoresOrOverruns :
    ({ base with cnt := 5 } : State).cnt.val < 6 ∧ 6 ≤ ({ base with cnt := 6 } : State).cnt.val := by decide

theorem witness_CrcCheckCommitsOrDiscards :
    ({ received with cnt := 5 } : State).cnt.val ≠ 6 ∧ ({ received with cnt := 7 } : State).cnt.val ≠ 6 ∧
    received.cnt.val = 6 ∧ received.crc = 0xE8 ∧ received.crc ≠ 0xE9 ∧
    (0xE8E8#32).toNat = received.crc.toNat * 256 + (0xE8#8).toNat ∧
    (0xE8E9#32).toNat = received.crc.toNat * 256 + (0xE9#8).toNat := by decide

/-- `CAL.INIT` and `CAL.BYTE`: locked, and the last unlocked pointer. -/
theorem witness_CalInitRestartsUntilLocked : loaded.calptr.val = 26 ∧ ({ base with calptr := 25 } : State).calptr.val ≠ 26 := by
  decide

theorem witness_CalByteStoresUntilLocked : loaded.calptr.val = 26 ∧ base.calptr.val ≠ 26 := by decide

theorem witness_PByteStoresOrOverruns :
    ({ base with pcnt := 5 } : State).pcnt.val < 6 ∧ 6 ≤ ({ base with pcnt := 6 } : State).pcnt.val := by decide

theorem witness_PCommitReplacesTheFrame :
    ({ base with pcnt := 5 } : State).pcnt.val ≠ 6 ∧ ({ base with pcnt := 7 } : State).pcnt.val ≠ 6 ∧
    ({ base with pcnt := 6 } : State).pcnt.val = 6 := by decide

theorem witness_ConvertWritesTheConversion :
    base.pfrmValid = false ∧ ({ loaded with calptr := 25 } : State).calptr.val ≠ 26 ∧
    (loaded.pfrmValid = true ∧ loaded.calptr.val = 26) ∧
    (Coherent converted ∧ converted.pfrmValid = true ∧ converted.convNeeded = false) ∧
    (adcT loaded.pfrm = 519888 ∧ adcP loaded.pfrm = 415148 ∧ coefs loaded.calUnsigned loaded.cal =
      ⟨27504, 26435, -1000, 36477, -10685, 3024, 2855, 140, -7, 15500, -14600, 6000⟩) := by decide +kernel

/-- The predicate of the statement, and a reserved number of each kind, at the ends of its range. -/
theorem witness_ReadMapValues :
    (∃ reads : Byte → Data → Prop,
      ∀ r d, reads r d ↔ exec (.rd r) loaded = .next { loaded with rsps := loaded.rsps ++ [⟨.ok, d⟩] }) ∧
    0x3F#8 ∈ [0x06#8, 0x07, 0x0D, 0x0E, 0x0F, 0x27, 0x2E, 0x2F, 0x36, 0x37, 0x3E, 0x3F] ∧
    (0x15 ≤ (0x15#8).toNat ∧ (0x15#8).toNat ≤ 0x1F) ∧ (0x5A ≤ (0x5F#8).toNat ∧ (0x5F#8).toNat ≤ 0x5F) ∧
    0x6C ≤ (0x6C#8).toNat := ⟨⟨_, fun _ _ => Iff.rfl⟩, by decide, by decide, by decide, by decide⟩

theorem witness_ResultReadConvertsLazily :
    base.pfrmValid = false ∧
    (({ loaded with calptr := 3 } : State).convNeeded = true ∧ ({ loaded with calptr := 3 } : State).calptr.val ≠ 26) ∧
    (loaded.pfrmValid = true ∧ loaded.convNeeded = true ∧ loaded.calptr.val = 26) ∧
    (converted.pfrmValid = true ∧ converted.convNeeded = false) := by decide

/-- `NOP` meets every premise of the frame. -/
theorem witness_OnlyListedWritersChangeAnElement :
    exec .nop loaded = .next (after .nop loaded) ∧
    Instr.nop ≠ .crcInit ∧ (∀ b, Instr.nop ≠ .crcByte b) ∧ (∀ b, Instr.nop ≠ .crcCheck b) ∧ Instr.nop ≠ .hClear ∧
    (∀ b, Instr.nop ≠ .hStatus b) ∧ (∀ b, Instr.nop ≠ .calByte b) ∧ Instr.nop ≠ .calInit ∧ (∀ b, Instr.nop ≠ .pByte b) ∧
    Instr.nop ≠ .pInit ∧ Instr.nop ≠ .pCommit ∧ Instr.nop ≠ .convert ∧ Instr.nop ≠ .rd 0x12 ∧ Instr.nop ≠ .rd 0x13 ∧
    Instr.nop ≠ .rd 0x14 := by simp [exec, execNop, after]

theorem witness_OneResponseAndItsFaultBit :
    exec (.crcCheck 0xE9) received = .next (after (.crcCheck 0xE9) received) ∧ ResultCode.mismatch.bits.toNat < 2 ∧
    exec (.crcByte 1) received = .next (after (.crcByte 1) received) ∧ 2 ≤ ResultCode.badlen.bits.toNat ∧
    (∀ n, Instr.crcByte 1 ≠ .rd n) ∧ (∀ b, Instr.crcByte 1 ≠ .crcCheck b) :=
  ⟨rfl, by decide, rfl, by decide, by simp, by simp⟩

theorem witness_FaultFreeRunsReportedNoFault :
    ({ base with inputs := [.cmd 0x1000, .cmd 0x0000] } : State).inputs = [0x1000#16, 0x0000].map .cmd ∧
    Host.Core.run Sys2Proof.core 2 { base with inputs := [.cmd 0x1000, .cmd 0x0000] } =
      .next { base with rsps := [⟨.ok, 0⟩, ⟨.ok, 0⟩] } ∧
    faultFree { base with rsps := [⟨.ok, 0⟩, ⟨.ok, 0⟩] } = true := ⟨rfl, rfl, rfl⟩

theorem witness_HumidityFrameNeverTorn : exec (.crcCheck 0xE8) received = .next (after (.crcCheck 0xE8) received) := by rfl

theorem witness_RetryIsTheLastFullCheck :
    (exec (.crcCheck 0xE9) received = .next (after (.crcCheck 0xE9) received) ∧ received.cnt.val = 6) ∧
    (exec (.crcCheck 0xE9) base = .next (after (.crcCheck 0xE9) base) ∧ base.cnt.val ≠ 6) ∧
    exec .hClear received = .next (after .hClear received) ∧
    (exec .nop received = .next (after .nop received) ∧ (∀ b, Instr.nop ≠ .crcCheck b) ∧ Instr.nop ≠ .hClear) :=
  ⟨⟨rfl, rfl⟩, ⟨rfl, by decide⟩, rfl, rfl, by simp, by simp⟩

theorem witness_CalibrationLocksWhole :
    (calValid loaded = true ∧ exec (.calByte 7) loaded = .next (after (.calByte 7) loaded)) ∧
    (calValid { base with calptr := 25 } = false ∧ calValid { loaded with calptr := 3 } = false ∧
      ({ loaded with calptr := 3 } : State).convNeeded = true) := ⟨⟨rfl, rfl⟩, rfl, rfl, rfl⟩

theorem witness_PressureFlagsFollowTheirEvents :
    exec .pCommit { loaded with pcnt := 6 } = .next (after .pCommit { loaded with pcnt := 6 }) ∧
    exec (.rd 0x14) loaded = .next (after (.rd 0x14) loaded) ∧
    (exec .nop loaded = .next (after .nop loaded) ∧ (loaded.convNeeded = true → loaded.pfrmValid = true) ∧
      (after .nop loaded).convNeeded = true) := ⟨rfl, rfl, rfl, fun _ => rfl, rfl⟩

theorem witness_PressureReadConsumesHasData :
    (exec (.rd 0x14) base = .next (after (.rd 0x14) base) ∧
      (after (.rd 0x14) base).rsps = base.rsps ++ [⟨.nodata, 0⟩]) ∧
    (exec (.rd 0x14) converted = .next (after (.rd 0x14) converted) ∧
      (after (.rd 0x14) converted).rsps = converted.rsps ++ [⟨.ok, 25767233⟩]) ∧
    exec (.rd 0x12) loaded = .next (after (.rd 0x12) loaded) := ⟨⟨rfl, rfl⟩, ⟨rfl, rfl⟩, rfl⟩

/-- The numbers beside the three result registers, and a result register read twice. -/
theorem witness_OnlyResultReadsHaveSideEffects :
    (exec (.rd 0x11) loaded = .next (after (.rd 0x11) loaded) ∧ 0x11#8 ≠ 0x12 ∧ 0x11#8 ≠ 0x13 ∧ 0x11#8 ≠ 0x14) ∧
    (exec (.rd 0x15) loaded = .next (after (.rd 0x15) loaded) ∧ 0x15#8 ≠ 0x12 ∧ 0x15#8 ≠ 0x13 ∧ 0x15#8 ≠ 0x14) ∧
    exec (.rd 0x12) loaded = .next (after (.rd 0x12) loaded) ∧
    exec (.rd 0x12) (after (.rd 0x12) loaded) = .next (after (.rd 0x12) (after (.rd 0x12) loaded)) :=
  ⟨⟨rfl, by decide⟩, ⟨rfl, by decide⟩, rfl, rfl⟩

theorem witness_EveryStepKeepsTheInvariant :
    Coherent { converted with inputs := [.cmd 0x0114] } ∧
    step { converted with inputs := [.cmd 0x0114] } = .next (after (.rd 0x14) converted) := ⟨by decide +kernel, rfl⟩

theorem witness_ReachableStatesMeetAllSixItems :
    Reachable { State.resetWith .t1 with inputs := [.cmd 0x4200] } ∧
    step { State.resetWith .t1 with inputs := [.cmd 0x4200] } = .next (after .pCommit (State.resetWith .t1)) :=
  ⟨.start .t1 _, rfl⟩

/-- A pressure frame and a calibration that are loaded, not converted and converted. -/
theorem witness_ResultReadIsNeverStale :
    (Coherent loaded ∧ ready loaded = true) ∧ Coherent converted ∧ ready converted = true := by decide +kernel

theorem witness_PathsDoNotInterfere :
    (pathOf (.crcCheck 0xE8) = .humidity ∧ SameHumidity received { loaded with stg := received.stg, crc := 0xE8, cnt := 6 }) ∧
    (pathOf (.rd 0x14) = .pressure ∧ SamePressure loaded { loaded with crc := 0, cnt := 7, fault := 3, retry := true }) := by
  decide

theorem witness_CommandsOfDifferentPathsCommute : pathOf (.rd 0x0A) = .humidity ∧ pathOf .convert = .pressure := by decide

theorem witness_CrcLaws : (0x12#8) ^^^ 0x34 = 0x00 ^^^ 0x26 := by decide

theorem witness_StreamedBytesAccumulate :
    ([] : List Byte).length ≤ 6 ∧ ([0x1C, 0x80, 0x00, 0x05, 0x99, 0x9A] : List Byte).length ≤ 6 := by decide

theorem witness_HumidityFrameIsPublishedWholeOrNotAtAll :
    (0xE8E8#32).toNat = (crc8 (#v[0x1C, 0x80, 0x00, 0x05, 0x99, 0x9A] : Vector Byte 6).toList).toNat * 256 + (0xE8#8).toNat ∧
    (0xE8E9#32).toNat = (crc8 (#v[0x1C, 0x80, 0x00, 0x05, 0x99, 0x9A] : Vector Byte 6).toList).toNat * 256 + (0xE9#8).toNat := by
  decide +kernel

theorem witness_CalibrationBlockLoadsOnceAndLocks :
    ({ base with calptr := 25 } : State).calptr.val ≠ 26 ∧ loaded.calptr.val = 26 := by decide

/-- Both readings of `c[3]`, the always unsigned `c[0]`, and a signed coefficient on both sides of 32768. -/
theorem witness_CoefficientsAreLittleEndian :
    (0x8000 : Int) = (calV50[7]).toNat * 256 + (calV50[6]).toNat ∧ (0xFFFF : Int) = (calV50[1]).toNat * 256 + (calV50[0]).toNat ∧
    (0x8000 : Int) = (calV50[3]).toNat * 256 + (calV50[2]).toNat ∧ ((0x8000 : Int) < 32768) = False ∧
    (0x7FFF : Int) = (calV50[5]).toNat * 256 + (calV50[4]).toNat ∧ (0x7FFF : Int) < 32768 := by decide

theorem witness_LastTwoCalibrationBytesAreUnused :
    (∀ (k : Nat) (hk : k < 24), (calV51.set 24 0xDE)[k] = calV51[k]) ∧ (calV51.set 24 0xDE) ≠ calV51 := by decide

theorem witness_HumidityFieldsArePackedMsbFirst :
    (∀ k : Fin 7, k ≠ 0 → k ≠ 6 → (#v[0x98, 1, 2, 3, 4, 5, 9] : Vector Byte 7)[k] = (#v[0, 1, 2, 3, 4, 5, 6] : Vector Byte 7)[k]) := by
  decide

/-- V20 and V22: both ends of the temperature range. -/
theorem witness_LinearScalerIsExact :
    0 = (traw base.frm).toNat ∧ 2 ^ 20 - 1 = (traw #v[0x18, 0xFF, 0xFF, 0xFF, 0xFF, 0xFF, 0x00]).toNat := by decide

theorem witness_AccessorsGiveExactQuantities :
    (∃ gives : Accessor → Reading → Prop, ∀ a v, gives a v ↔
      ∃ d : Data, exec a.command converted = .next { converted with rsps := converted.rsps ++ [⟨.ok, d⟩] } ∧ a.value d = v) ∧
    converted.pfrmValid = true ∧ converted.convNeeded = false := ⟨⟨_, fun _ _ => Iff.rfl⟩, rfl, rfl⟩

theorem witness_WidthOperators : (32 ≤ 32) ∧ (0 < 1) ∧ (-2 : Int) ≠ 0 := by decide

/-- V45: the ends of every range, and both premises on the overflow of [O1]. -/
theorem witness_StageTRanges :
    stageT { zeroCoefs with T1 := 65535, T2 := -32768 } 0 = stageT { zeroCoefs with T1 := 65535, T2 := -32768 } 0 ∧
    (stageT { zeroCoefs with T1 := 65535, T2 := -32768 } 0).steps[0]? = some true ∧
    (stageT { zeroCoefs with T1 := 65535, T2 := -32768 } 0).steps[1]? = some true ∧
    (stageT { zeroCoefs with T3 := 32767 } 741440).steps[2]? = some true ∧
    (2 : Int) ^ 31 ≤ |(stageT { zeroCoefs with T2 := 32767 } (2 ^ 20 - 1)).a3 * 32767| := by decide +kernel

theorem witness_PolynomialTermsNeverOverflow :
    |(-(2 ^ 20 + 2 ^ 17) : Int)| ≤ 2 ^ 20 + 2 ^ 17 ∧
    ∀ p ∈ [(-32768 : Int), 32767, -32768, 32767, -32768], -32768 ≤ p ∧ p ≤ 32767 := by decide +kernel

/-- V43 and V40 on the two sides of the guard; V42 as a state. -/
theorem witness_ZeroDenominatorIsGuarded :
    (divisor { zeroCoefs with T2 := 23152, T3 := 4027, P1 := 36477, P2 := -32768 } 741440).den = 0 ∧
    (divisor (coefs .t1p1 calV51) 519888).den ≠ 0 ∧ zeroCoefs.P1 = 0 ∧
    ready { loaded with cal := Vector.replicate 26 0 } = true ∧
    (conversionOf { loaded with cal := Vector.replicate 26 0 }).pz = true ∧
    (conversionOf { loaded with cal := Vector.replicate 26 0 }).ov = false := by decide +kernel

/-- V41 and V40: a conversion that overflows and one that does not; V42: one that is guarded. -/
theorem witness_OnlyListedStepsCanOverflow :
    ready loaded = true ∧ loaded.convNeeded = true ∧ (conversionOf loaded).ov = false ∧ (conversionOf loaded).pz = false ∧
    (conversionOf { loaded with calUnsigned := .t1 }).ov = true ∧
    (conversionOf { loaded with cal := Vector.replicate 26 0 }).pz = true ∧
    (after .convert loaded).rsps = loaded.rsps ++ [⟨.ok, 0⟩] ∧
    (divisor (coefs .t1p1 calV51) (519888#20).toNat).den ≠ 0 := by decide +kernel

/-- V48: [O20] overflows. -/
theorem witness_OnlyListedStepsCanOverflow_O20 :
    (convert { zeroCoefs with T1 := 27504, T2 := 26435, T3 := -1000, P1 := 36477, P6 := 32767 } (2 ^ 20 - 1) 415148).steps[19]? =
      some true := by decide +kernel

theorem witness_CompensationHasItsNamedProperties :
    ({ zeroCoefs with P1 := 7 } : Coefs).T1 = zeroCoefs.T1 ∧ ({ zeroCoefs with P1 := 7 } : Coefs).T2 = zeroCoefs.T2 ∧
    ({ zeroCoefs with P1 := 7 } : Coefs).T3 = zeroCoefs.T3 ∧ (convert zeroCoefs 519888 415148).pz = true := by decide +kernel

theorem witness_WorkedExampleOfTheDatasheet :
    coefs .t1p1 calV51 = ⟨27504, 26435, -1000, 36477, -10685, 3024, 2855, 140, -7, 15500, -14600, 6000⟩ := by decide

end Sys2Proof.Tests
end

section
/-! SUPPORT. The width operators of R8, each by its defining property, and the statement WidthOperators. -/

namespace Sys2Proof.Machine

theorem toNat_trunc (n : Nat) (v : Int) : ((trunc n v).toNat : Int) = v % 2 ^ n := by
  have hr : 0 ≤ v % 2 ^ n := Int.emod_nonneg v (by positivity)
  rw [trunc, BitVec.toNat_ofInt]
  push_cast
  exact Int.toNat_of_nonneg hr

theorem toNat_zext32 {w : Nat} (hw : w ≤ 32) (v : BitVec w) : (zext32 v).toNat = v.toNat :=
  BitVec.toNat_setWidth_of_le hw

/-- Two's complement: a pattern in the upper half of the range stands for its number less `2^w` (R8). -/
theorem sext_eq_ite {w : Nat} (hw : 0 < w) (v : BitVec w) :
    sext v = if v.toNat < 2 ^ (w - 1) then (v.toNat : Int) else (v.toNat : Int) - 2 ^ w := by
  have hhalf : 2 * v.toNat < 2 ^ w ↔ v.toNat < 2 ^ (w - 1) := by
    rw [← Nat.two_pow_pred_mul_two hw]; omega
  simp only [sext, BitVec.toInt_eq_toNat_cond, hhalf]
  push_cast
  rfl

theorem ovf_iff_wrap_ne (n : Nat) (v : Int) : ovf n v = true ↔ wrap n v ≠ v := bne_iff_ne

theorem asr_eq_floor (v : Int) (k : Nat) : asr v k = ⌊(v : ℚ) / 2 ^ k⌋ := by
  simpa [asr] using (Rat.floor_intCast_div_natCast v (2 ^ k)).symm

/-- Truncated division divides the absolute values and takes the product of the signs. -/
theorem sdiv_eq_sign_mul_natAbs_div (a b : Int) : sdiv a b = a.sign * b.sign * (a.natAbs / b.natAbs : Nat) := by
  rw [sdiv, ← Int.sign_mul_natAbs (a.tdiv b), Int.sign_tdiv, Int.natAbs_tdiv,
    show a.natAbs.div b.natAbs = a.natAbs / b.natAbs from rfl]
  split
  case isTrue hlt => simp [Nat.div_eq_of_lt hlt]
  case isFalse => rfl

theorem floor_abs_div_abs (a b : Int) : ⌊|(a : ℚ)| / |(b : ℚ)|⌋ = (a.natAbs / b.natAbs : Nat) := by
  rw [← Int.cast_abs, ← Int.cast_abs, ← Nat.cast_natAbs a, ← Nat.cast_natAbs b, Rat.floor_natCast_div_natCast]
  rfl

/-- Settles O54: each operator has its own lemma; `wrap` is known by its bounds and its congruence. -/
theorem widthOperators : Obligations.WidthOperators := by
  refine ⟨toNat_trunc, fun _ v hw => toNat_zext32 hw v, fun _ v hw => sext_eq_ite hw v, fun n v hn => ?_,
    fun v k => ⟨asr_eq_floor v k, rfl⟩, fun a b _ => ?_⟩
  · obtain ⟨hlo, hhi⟩ := wrap_bounds n hn v
    exact ⟨⟨hlo, hhi, wrap_congr n v⟩, ovf_iff_wrap_ne n v⟩
  · rw [sdiv_eq_sign_mul_natAbs_div, floor_abs_div_abs]

end Sys2Proof.Machine
end

section
/-! SUPPORT. What one step does with the inputs and the configuration, and the statements StepIsTotal and
StepRunsTheDecodedCommand. -/

namespace Sys2Proof.Machine

@[simp] theorem readResult_inputs (q : ResultReg) (s : State) : (readResult q s).inputs = s.inputs := by
  obtain ⟨-, h⟩ | ⟨-, -, -, h⟩ | ⟨-, -, h⟩ := readResult_cases q s <;> simp [h]

@[simp] theorem readResult_calUnsigned (q : ResultReg) (s : State) : (readResult q s).calUnsigned = s.calUnsigned := by
  obtain ⟨-, h⟩ | ⟨-, -, -, h⟩ | ⟨-, -, h⟩ := readResult_cases q s <;> simp [h]

@[simp] theorem illegalCommand_inputs (s : State) : (illegalCommand s).inputs = s.inputs := rfl

@[simp] theorem illegalCommand_calUnsigned (s : State) : (illegalCommand s).calUnsigned = s.calUnsigned := rfl

@[simp] theorem hardwareReset_inputs (s : State) : (hardwareReset s).inputs = s.inputs := rfl

@[simp] theorem hardwareReset_calUnsigned (s : State) : (hardwareReset s).calUnsigned = s.calUnsigned := rfl

/-- No command touches the inputs still to come or the configuration: every path of `exec_cases` ends in a response to a
state that differs from the first in elements of R20 only. -/
theorem exec_keeps_inputs_and_config (i : Instr) (s t : State) (h : exec i s = .next t) :
    t.inputs = s.inputs ∧ t.calUnsigned = s.calUnsigned := by
  rcases exec_cases i s t h with
    ⟨-, rfl⟩ | ⟨_, -, -, rfl⟩ | ⟨_, -, -, rfl⟩ | ⟨_, -, rfl⟩ |
    ⟨-, rfl⟩ | ⟨_, -, -, rfl⟩ | ⟨_, -, -, rfl⟩ | ⟨_, -, -, rfl⟩ | ⟨_, -, -, -, rfl⟩ | ⟨_, -, -, -, rfl⟩ |
    ⟨_, -, rfl⟩ | ⟨-, rfl⟩ |
    ⟨-, -, rfl⟩ | ⟨-, -, rfl⟩ | ⟨_, -, -, rfl⟩ | ⟨_, -, -, rfl⟩ |
    ⟨-, rfl⟩ | ⟨_, -, -, rfl⟩ | ⟨_, -, -, rfl⟩ | ⟨-, -, rfl⟩ | ⟨-, -, rfl⟩ |
    ⟨-, -, rfl⟩ | ⟨-, -, -, rfl⟩ <;> simp

theorem step_nil (s : State) (h : s.inputs = []) : step s = .next s := by
  simp [step, takeInput_nil s h]

theorem step_of_decode_ok (s : State) (w : CmdWord) (rest : List Input) (i : Instr) (h : s.inputs = .cmd w :: rest)
    (hd : decode w = .ok i) : step s = exec i { s with inputs := rest } := by
  simp [step, takeInput_cons s _ _ h, hd]

/-- Every step goes on to a next state (R10). -/
theorem step_next (s : State) : ∃ t, step s = .next t := by
  obtain ⟨-, h⟩ | ⟨rest, -, h⟩ | ⟨w, rest, i, -, -, h⟩ | ⟨w, rest, e, -, -, h⟩ := step_cases s
  · exact ⟨_, h⟩
  · exact ⟨_, h⟩
  · rw [h]; exact exec_next i _
  · exact ⟨_, h⟩

/-- A step takes the first input, whichever it is, and keeps the configuration (R10, R20). -/
theorem step_takes_first_input (s t : State) (j : Input) (rest : List Input) (hj : s.inputs = j :: rest)
    (ht : step s = .next t) : t.inputs = rest ∧ t.calUnsigned = s.calUnsigned := by
  obtain ⟨hin, -⟩ | ⟨_, hin, h⟩ | ⟨_, _, i, hin, -, h⟩ | ⟨_, _, _, hin, -, h⟩ := step_cases s
  · simp [hj] at hin
  · rw [hj] at hin; cases hin
    rw [h] at ht; cases ht
    simp
  · rw [hj] at hin; cases hin
    rw [h] at ht
    exact exec_keeps_inputs_and_config i _ t ht
  · rw [hj] at hin; cases hin
    rw [h] at ht; cases ht
    simp

/-- Settles O8, from `step_cases`: each kind of step goes on to a next state and takes the first input alone. -/
theorem stepIsTotal : Obligations.StepIsTotal :=
  ⟨step_next, step_nil, step_takes_first_input⟩

/-- Settles O7. -/
theorem stepRunsTheDecodedCommand : Obligations.StepRunsTheDecodedCommand := step_of_decode_ok

end Sys2Proof.Machine
end

section
/-! SUPPORT. What reading a result register changes, field by field, and the paths of `RD` and `CRC.CHECK` as equations. -/

namespace Sys2Proof.Machine

theorem calValid_iff (s : State) : calValid s = true ↔ s.calptr.val = 26 := beq_iff_eq

theorem calValid_eq_false_iff (s : State) : calValid s = false ↔ s.calptr.val ≠ 26 := by
  rw [← Bool.not_eq_true, calValid_iff]

/-- The frame of a result read (R196, R197): the elements of the conversion, `PHASDATA`, `FAULT` and the response. -/
theorem readResult_frame (q : ResultReg) (s : State) : readResult q s = { s with
    tfine := (readResult q s).tfine, tcomp := (readResult q s).tcomp, pcomp := (readResult q s).pcomp,
    pzero := (readResult q s).pzero, convNeeded := (readResult q s).convNeeded, pHasData := (readResult q s).pHasData,
    fault := (readResult q s).fault, rsps := (readResult q s).rsps } := by
  obtain ⟨-, h⟩ | ⟨-, -, -, h⟩ | ⟨-, -, h⟩ := readResult_cases q s <;> rw [h] <;> apply State.eq_of_fields <;> simp

@[simp] theorem readResult_crc (q : ResultReg) (s : State) : (readResult q s).crc = s.crc := by rw [readResult_frame]
@[simp] theorem readResult_cnt (q : ResultReg) (s : State) : (readResult q s).cnt = s.cnt := by rw [readResult_frame]
@[simp] theorem readResult_stg (q : ResultReg) (s : State) : (readResult q s).stg = s.stg := by rw [readResult_frame]
@[simp] theorem readResult_frm (q : ResultReg) (s : State) : (readResult q s).frm = s.frm := by rw [readResult_frame]
@[simp] theorem readResult_retry (q : ResultReg) (s : State) : (readResult q s).retry = s.retry := by
  rw [readResult_frame]
@[simp] theorem readResult_cal (q : ResultReg) (s : State) : (readResult q s).cal = s.cal := by rw [readResult_frame]
@[simp] theorem readResult_calptr (q : ResultReg) (s : State) : (readResult q s).calptr = s.calptr := by
  rw [readResult_frame]
@[simp] theorem readResult_pstg (q : ResultReg) (s : State) : (readResult q s).pstg = s.pstg := by rw [readResult_frame]
@[simp] theorem readResult_pcnt (q : ResultReg) (s : State) : (readResult q s).pcnt = s.pcnt := by rw [readResult_frame]
@[simp] theorem readResult_pfrm (q : ResultReg) (s : State) : (readResult q s).pfrm = s.pfrm := by rw [readResult_frame]
@[simp] theorem readResult_pfrmValid (q : ResultReg) (s : State) : (readResult q s).pfrmValid = s.pfrmValid := by
  rw [readResult_frame]

/-- A result read clears `CONVNEEDED` exactly when it can convert (R196). -/
theorem readResult_convNeeded_iff (q : ResultReg) (s : State) : (readResult q s).convNeeded = true ↔
    s.convNeeded = true ∧ ¬(s.pfrmValid = true ∧ s.calptr.val = 26) := by
  rw [← calValid_iff]
  obtain ⟨hr, h⟩ | ⟨hf, -, hv, h⟩ | ⟨-, hn, h⟩ := readResult_cases q s <;> rw [h]
  · obtain hf | ⟨hn, hv⟩ := hr <;> simp [*]
  · simp [hf, hv]
  · simp [hn]

/-- A result read clears `PHASDATA` exactly when it is a read of `PCOMP` that is not refused (R197). -/
theorem readResult_pHasData_iff (q : ResultReg) (s : State) : (readResult q s).pHasData = true ↔
    s.pHasData = true ∧ ¬(q = .pcomp ∧ s.pfrmValid = true ∧ (s.convNeeded = true → s.calptr.val = 26)) := by
  rw [← calValid_iff]
  obtain ⟨hr, h⟩ | ⟨hf, -, hv, h⟩ | ⟨hf, hn, h⟩ := readResult_cases q s <;> rw [h]
  · obtain hf | ⟨hn, hv⟩ := hr <;> simp [*]
  · simp [hf, hv]
  · simp [hf, hn]

theorem readResult_pHasData_of_ne {q : ResultReg} (hq : q ≠ .pcomp) (s : State) :
    (readResult q s).pHasData = s.pHasData :=
  Bool.eq_iff_iff.2 ((readResult_pHasData_iff q s).trans (by simp [hq]))

/-- The numbers of the three result registers (R42). -/
theorem number_result_iff (r : Byte) : (∃ q, r = Reg.number (.result q)) ↔ r = 0x12 ∨ r = 0x13 ∨ r = 0x14 := by
  constructor
  · rintro ⟨q, rfl⟩
    cases q <;> decide
  · rintro (rfl | rfl | rfl)
    exacts [⟨.tfine, rfl⟩, ⟨.tcomp, rfl⟩, ⟨.pcomp, rfl⟩]

theorem exec_rd_result (q : ResultReg) (s : State) : exec (.rd (Reg.number (.result q))) s = .next (readResult q s) :=
  execRd_result q s

theorem exec_rd_plain (g : Reg) (hg : ∀ q, g ≠ .result q) (s : State) :
    exec (.rd g.number) s = .next { s with rsps := s.rsps ++ [⟨.ok, regRead g s⟩] } :=
  execRd_plain g hg s

theorem exec_crcCheck_of_badlen (b : Byte) {s : State} (hn : s.cnt.val ≠ 6) :
    exec (.crcCheck b) s = .next (faultRespond .badlen (crcInfo s.crc b) (initCrcUnit s)) :=
  if_pos hn

theorem exec_crcCheck_of_match {b : Byte} {s : State} (hn : s.cnt.val = 6) (hb : s.crc = b) :
    exec (.crcCheck b) s =
      .next (respond .ok (crcInfo s.crc b) { initCrcUnit s with frm := wholeFrame s.stg b, retry := false }) :=
  (if_neg (not_not.2 hn)).trans (if_pos hb)

theorem exec_crcCheck_of_mismatch {b : Byte} {s : State} (hn : s.cnt.val = 6) (hb : s.crc ≠ b) :
    exec (.crcCheck b) s = .next (respond .mismatch (crcInfo s.crc b) { initCrcUnit s with retry := true }) :=
  (if_neg (not_not.2 hn)).trans (if_neg hb)

end Sys2Proof.Machine
end

section
/-! SUPPORT. The frame of every command (R20) and the statement OnlyListedWritersChangeAnElement. -/

namespace Sys2Proof.Machine

/-- Settles O25: each path of `exec_cases` is a record update whose fields the simp set reads off, but for the read of a
result register, which is told by its number and by the frame of `readResult`. -/
theorem onlyListedWritersChangeAnElement : Obligations.OnlyListedWritersChangeAnElement := by
  intro i s t h
  rcases exec_cases i s t h with
    ⟨rfl, rfl⟩ | ⟨_, rfl, -, rfl⟩ | ⟨_, rfl, -, rfl⟩ | ⟨q, rfl, rfl⟩ |
    ⟨rfl, rfl⟩ | ⟨_, rfl, -, rfl⟩ | ⟨_, rfl, -, rfl⟩ | ⟨_, rfl, -, rfl⟩ | ⟨_, rfl, -, -, rfl⟩ | ⟨_, rfl, -, -, rfl⟩ |
    ⟨_, rfl, rfl⟩ | ⟨rfl, rfl⟩ |
    ⟨rfl, -, rfl⟩ | ⟨rfl, -, rfl⟩ | ⟨_, rfl, -, rfl⟩ | ⟨_, rfl, -, rfl⟩ |
    ⟨rfl, rfl⟩ | ⟨_, rfl, -, rfl⟩ | ⟨_, rfl, -, rfl⟩ | ⟨rfl, -, rfl⟩ | ⟨rfl, -, rfl⟩ |
    ⟨rfl, -, rfl⟩ | ⟨rfl, -, -, rfl⟩
  on_goal 4 => cases q <;> simp [Reg.number, readResult_pHasData_of_ne]
  all_goals simp [SameResults]

end Sys2Proof.Machine
end

section
/-! SUPPORT. The humidity frame and `RETRY` (R26, R29), and the statements HumidityFrameNeverTorn and
RetryIsTheLastFullCheck. -/

namespace Sys2Proof.Machine

theorem wholeFrame_getElem_lt (stg : Vector Byte 6) (c : Byte) (k : Fin 6) : (wholeFrame stg c)[k.val] = stg[k] :=
  Vector.getElem_push_lt k.isLt

theorem wholeFrame_getElem_six (stg : Vector Byte 6) (c : Byte) : (wholeFrame stg c)[6] = c :=
  Vector.getElem_push_eq

/-- Settles O28: `CRC.CHECK` commits on a match alone, `H.STATUS` stores at index 0, `H.CLEAR` zeroes, and no other command
is a listed writer of `FRM`. -/
theorem humidityFrameNeverTorn : Obligations.HumidityFrameNeverTorn := by
  intro i s t h
  obtain ⟨-, -, hframe, -⟩ := onlyListedWritersChangeAnElement i s t h
  cases i with
  | crcCheck b =>
    by_cases hn : s.cnt.val = 6
    · by_cases hb : s.crc = b
      · cases (exec_crcCheck_of_match hn hb).symm.trans h
        exact .inr (.inl ⟨b, rfl, hn, hb, wholeFrame_getElem_lt s.stg b, wholeFrame_getElem_six s.stg b⟩)
      · cases (exec_crcCheck_of_mismatch hn hb).symm.trans h
        exact .inl rfl
    · cases (exec_crcCheck_of_badlen b hn).symm.trans h
      exact .inl rfl
  | hStatus b =>
    cases h
    refine .inr (.inr (.inl ⟨b, rfl, ?_, fun k hk => ?_⟩))
    · exact (getElem_putByte s.frm 0 b 0 _).trans (if_pos rfl)
    · exact (getElem_putByte s.frm 0 b k.val k.isLt).trans (if_neg fun h0 => hk (Fin.ext h0.symm))
  | hClear =>
    cases h
    exact .inr (.inr (.inr ⟨rfl, fun k => Vector.getElem_replicate k.isLt⟩))
  | _ => exact .inl (hframe (by simp))

/-- Settles O29, by the three paths of `CRC.CHECK` and the frame of every other command. -/
theorem retryIsTheLastFullCheck : Obligations.RetryIsTheLastFullCheck := by
  refine ⟨fun i s t h => ⟨?_, ?_, ?_, ?_⟩, rfl⟩
  · rintro b rfl hn
    by_cases hb : s.crc = b
    · cases (exec_crcCheck_of_match hn hb).symm.trans h
      simp [hb]
    · cases (exec_crcCheck_of_mismatch hn hb).symm.trans h
      simp [hb]
  · rintro b rfl hn
    cases (exec_crcCheck_of_badlen b hn).symm.trans h
    rfl
  · rintro rfl
    cases h
    rfl
  · intro hcheck hclear
    obtain ⟨-, -, -, hframe, -⟩ := onlyListedWritersChangeAnElement i s t h
    exact hframe ⟨hcheck, hclear⟩

end Sys2Proof.Machine
end

section
/-! SUPPORT. The lock of the calibration store (R32) and the three flags of the pressure path (R35 to R37), and the statements
CalibrationLocksWhole and PressureFlagsFollowTheirEvents. -/

namespace Sys2Proof.Machine

/-- Settles O30: a locked store refuses its two writers, and without `CALVALID` the first guard of `CONVERT` and of a
converting read holds. -/
theorem calibrationLocksWhole : Obligations.CalibrationLocksWhole := by
  refine ⟨calValid_iff, fun i s t hv h => ?_, fun s hv => if_pos (.inr hv), fun s n hv hc hn => ?_, rfl⟩
  · obtain ⟨-, -, -, -, hcal, hptr, -⟩ := onlyListedWritersChangeAnElement i s t h
    cases i with
    | calInit => cases (if_pos hv).symm.trans h; exact ⟨rfl, rfl⟩
    | calByte b => cases (if_pos hv).symm.trans h; exact ⟨rfl, rfl⟩
    | _ => exact ⟨hcal (by simp), hptr (by simp)⟩
  · obtain ⟨q, rfl⟩ := (number_result_iff n).2 hn
    obtain ⟨-, h⟩ | ⟨-, -, hv', -⟩ | ⟨-, hc', -⟩ := readResult_cases q s
    · rw [exec_rd_result, h]; rfl
    · simp [hv] at hv'
    · simp [hc] at hc'

/-- `P.COMMIT` sets all three flags on a full count and none otherwise (R147). -/
theorem flags_of_pCommit {s t : State} (h : exec .pCommit s = .next t) :
    (s.pcnt.val = 6 ∧ t.pfrmValid = true ∧ t.convNeeded = true ∧ t.pHasData = true) ∨
    (s.pcnt.val ≠ 6 ∧ t.pfrmValid = s.pfrmValid ∧ t.convNeeded = s.convNeeded ∧ t.pHasData = s.pHasData) := by
  by_cases hn : s.pcnt.val = 6
  · cases (if_neg (not_not.2 hn)).symm.trans h
    exact .inl ⟨hn, rfl, rfl, rfl⟩
  · cases (if_pos hn).symm.trans h
    exact .inr ⟨hn, rfl, rfl, rfl⟩

/-- `CONVERT` clears `CONVNEEDED` exactly when it is not refused (R170). -/
theorem convNeeded_iff_of_convert {s t : State} (h : exec .convert s = .next t) : t.convNeeded = true ↔
    s.convNeeded = true ∧ ¬(s.pfrmValid = true ∧ s.calptr.val = 26) := by
  rw [← calValid_iff]
  by_cases hr : s.pfrmValid = false ∨ calValid s = false
  · cases (if_pos hr).symm.trans h
    obtain hf | hv := hr <;> simp [*]
  · cases (if_neg hr).symm.trans h
    simpa using fun _ => hr

theorem exec_pfrmValid_iff {i : Instr} {s t : State} (h : exec i s = .next t) :
    t.pfrmValid = true ↔ s.pfrmValid = true ∨ (i = .pCommit ∧ s.pcnt.val = 6) := by
  obtain ⟨-, -, -, -, -, -, -, -, hframe, -⟩ := onlyListedWritersChangeAnElement i s t h
  by_cases hp : i = .pCommit
  · subst hp
    obtain ⟨hn, hf, -, -⟩ | ⟨hn, hf, -, -⟩ := flags_of_pCommit h <;> simp [hn, hf]
  · simp [hp, hframe hp]

/-- `CONVNEEDED` after any command (R36): what commits sets it, what converts clears it, the rest leaves it. -/
theorem exec_convNeeded_iff {i : Instr} {s t : State} (h : exec i s = .next t) :
    t.convNeeded = true ↔ (i = .pCommit ∧ s.pcnt.val = 6) ∨ (s.convNeeded = true ∧
      ¬((i = .convert ∨ i = .rd 0x12 ∨ i = .rd 0x13 ∨ i = .rd 0x14) ∧ s.pfrmValid = true ∧ s.calptr.val = 26)) := by
  obtain ⟨-, -, -, -, -, -, -, -, -, hframe, -⟩ := onlyListedWritersChangeAnElement i s t h
  by_cases hp : i = .pCommit
  · subst hp
    obtain ⟨hn, -, hc, -⟩ | ⟨hn, -, hc, -⟩ := flags_of_pCommit h <;> simp [hn, hc]
  by_cases hconv : i = .convert ∨ i = .rd 0x12 ∨ i = .rd 0x13 ∨ i = .rd 0x14
  · suffices t.convNeeded = true ↔ s.convNeeded = true ∧ ¬(s.pfrmValid = true ∧ s.calptr.val = 26) by
      rw [this]
      simp only [hp, hconv, false_and, false_or, true_and]
    obtain rfl | hrd := hconv
    · exact convNeeded_iff_of_convert h
    · obtain ⟨r, rfl⟩ : ∃ r, i = .rd r := by obtain rfl | rfl | rfl := hrd <;> exact ⟨_, rfl⟩
      obtain ⟨q, rfl⟩ := (number_result_iff r).2 (by simpa using hrd)
      cases (exec_rd_result q s).symm.trans h
      exact readResult_convNeeded_iff q s
  · rw [hframe (by simpa [hp] using hconv)]
    simp only [hp, hconv, false_and, false_or, not_false_eq_true, and_true]

/-- `PHASDATA` after any command (R37): what commits sets it, a `PCOMP` read that is not refused clears it. -/
theorem exec_pHasData_iff {i : Instr} {s t : State} (h : exec i s = .next t) :
    t.pHasData = true ↔ (i = .pCommit ∧ s.pcnt.val = 6) ∨ (s.pHasData = true ∧
      ¬(i = .rd 0x14 ∧ s.pfrmValid = true ∧ (s.convNeeded = true → s.calptr.val = 26))) := by
  obtain ⟨-, -, -, -, -, -, -, -, -, -, hframe, -⟩ := onlyListedWritersChangeAnElement i s t h
  by_cases hp : i = .pCommit
  · subst hp
    obtain ⟨hn, -, -, hd⟩ | ⟨hn, -, -, hd⟩ := flags_of_pCommit h <;> simp [hn, hd]
  by_cases hrd : i = .rd 0x14
  · subst hrd
    cases (exec_rd_result .pcomp s).symm.trans h
    simp [readResult_pHasData_iff]
  · rw [hframe ⟨hp, hrd⟩]
    simp only [hp, hrd, false_and, false_or, not_false_eq_true, and_true]

/-- Settles O31: one lemma per flag; R36's implication follows from the first two. -/
theorem pressureFlagsFollowTheirEvents : Obligations.PressureFlagsFollowTheirEvents := by
  refine ⟨fun i s t h => ⟨exec_pfrmValid_iff h, exec_convNeeded_iff h, exec_pHasData_iff h, fun hs ht => ?_⟩,
    rfl, rfl, rfl⟩
  rw [exec_pfrmValid_iff h]
  obtain hcommit | ⟨hn, -⟩ := (exec_convNeeded_iff h).1 ht
  · exact .inr hcommit
  · exact .inl (hs hn)

end Sys2Proof.Machine
end

section
/-! SUPPORT. The invariant of R45: what each shared operation does to `Coherent`, that every step keeps it, and the statements
InvariantHoldsAtReset, EveryStepKeepsTheInvariant and ReachableStatesMeetAllSixItems. An update of elements that `Coherent`
does not mention leaves it the same proposition by definition. -/

namespace Sys2Proof.Machine

theorem resultsCurrent_iff (s : State) : resultsCurrent s = true ↔
    s.tfine = trunc 32 (conversionOf s).tf ∧ s.tcomp = trunc 32 (conversionOf s).tc ∧ s.pcomp = (conversionOf s).pc ∧
      s.pzero = (conversionOf s).pz := by
  simp [resultsCurrent, and_assoc]

theorem coherent_resetWith (cu : CalUnsigned) : Coherent (State.resetWith cu) := ⟨nofun, nofun, nofun⟩

theorem coherent_consume (q : ResultReg) {s : State} (hc : Coherent s) : Coherent (consume q s) := by
  obtain ⟨hconv, hdata, hcur⟩ := hc
  cases q with
  | pcomp => exact ⟨hconv, nofun, hcur⟩
  | tfine => exact ⟨hconv, hdata, hcur⟩
  | tcomp => exact ⟨hconv, hdata, hcur⟩

theorem coherent_respondConverted {ov : Bool} {d : Data} {s : State} (hc : Coherent s) :
    Coherent (respondConverted ov d s) := by
  cases ov <;> exact hc

/-- Storing the conversion makes the results current: it writes nothing that the conversion reads. -/
theorem coherent_storeConversion {s : State} (hc : Coherent s) (hv : calValid s = true) :
    Coherent (storeConversion (conversionOf s) s) := by
  obtain ⟨-, hdata, -⟩ := hc
  exact ⟨nofun, hdata, fun _ _ => ⟨hv, (resultsCurrent_iff _).2 ⟨rfl, rfl, rfl, rfl⟩⟩⟩

theorem coherent_readResult (q : ResultReg) {s : State} (hc : Coherent s) : Coherent (readResult q s) := by
  obtain ⟨-, h⟩ | ⟨-, -, hv, h⟩ | ⟨-, -, h⟩ := readResult_cases q s <;> rw [h]
  · exact hc
  · exact coherent_respondConverted (coherent_consume q (coherent_storeConversion hc hv))
  · exact coherent_consume q hc

/-- While the store is unlocked there is no cached result that a write to it could make stale. -/
theorem coherent_of_unlocked {s : State} (hc : Coherent s) (hp : s.calptr.val ≠ 26) (cal : Vector Byte 26)
    (p : Fin 27) : Coherent { s with cal := cal, calptr := p } := by
  obtain ⟨hconv, hdata, hcur⟩ := hc
  exact ⟨hconv, hdata, fun hf hn => absurd ((calValid_iff s).1 (hcur hf hn).1) hp⟩

/-- A committed frame that still needs its conversion promises nothing of the results. -/
theorem coherent_of_convNeeded {s : State} (hf : s.pfrmValid = true) (hn : s.convNeeded = true) : Coherent s :=
  ⟨fun _ => hf, fun _ => hf, fun _ hn' => absurd hn (by simp [hn'])⟩

/-- Every command keeps the invariant: only the two writers of the calibration, a commit, `CONVERT` and a result read write
what it mentions. -/
theorem exec_keeps_coherent {i : Instr} {s t : State} (hc : Coherent s) (h : exec i s = .next t) : Coherent t := by
  rcases exec_cases i s t h with
    ⟨-, rfl⟩ | ⟨_, -, -, rfl⟩ | ⟨_, -, -, rfl⟩ | ⟨q, -, rfl⟩ |
    ⟨-, rfl⟩ | ⟨_, -, -, rfl⟩ | ⟨_, -, -, rfl⟩ | ⟨_, -, -, rfl⟩ | ⟨_, -, -, -, rfl⟩ | ⟨_, -, -, -, rfl⟩ |
    ⟨_, -, rfl⟩ | ⟨-, rfl⟩ |
    ⟨-, -, rfl⟩ | ⟨-, hp, rfl⟩ | ⟨_, -, -, rfl⟩ | ⟨_, -, hp, rfl⟩ |
    ⟨-, rfl⟩ | ⟨_, -, -, rfl⟩ | ⟨_, -, -, rfl⟩ | ⟨-, -, rfl⟩ | ⟨-, -, rfl⟩ |
    ⟨-, -, rfl⟩ | ⟨-, -, hp, rfl⟩
  exacts [hc, hc, hc, coherent_readResult q hc,
    hc, hc, hc, hc, hc, hc,
    hc, hc,
    hc, coherent_of_unlocked hc hp _ _, hc, coherent_of_unlocked hc hp _ _,
    hc, hc, hc, hc, coherent_of_convNeeded rfl rfl,
    hc, coherent_respondConverted (coherent_storeConversion hc ((calValid_iff s).2 hp))]

/-- Settles O35: a reset establishes the invariant, a command keeps it, and an illegal word writes nothing it mentions. -/
theorem everyStepKeepsTheInvariant : Obligations.EveryStepKeepsTheInvariant := by
  intro s t hc ht
  obtain ⟨-, h⟩ | ⟨rest, -, h⟩ | ⟨w, rest, i, -, -, h⟩ | ⟨w, rest, e, -, -, h⟩ := step_cases s <;> rw [h] at ht
  · cases ht; exact hc
  · cases ht; exact coherent_resetWith s.calUnsigned
  · exact exec_keeps_coherent (s := { s with inputs := rest }) hc ht
  · cases ht; exact hc

/-- Settles O34. -/
theorem invariantHoldsAtReset : Obligations.InvariantHoldsAtReset := coherent_resetWith _

theorem reachable_coherent {s : State} (hs : Reachable s) : Coherent s := by
  induction hs with
  | start cu ins => exact coherent_resetWith cu
  | step s t _ ht ih => exact everyStepKeepsTheInvariant s t ih ht

@[simp] theorem fault_or_and_self (f m : BitVec 5) : (f ||| m) &&& f = f := by
  ext k hk
  cases h : f[k] <;> simp [h]

theorem respondConverted_keeps_fault_bits (ov : Bool) (d : Data) (s : State) :
    (respondConverted ov d s).fault &&& s.fault = s.fault := by
  cases ov <;> simp

theorem readResult_keeps_fault_bits (q : ResultReg) (s : State) : (readResult q s).fault &&& s.fault = s.fault := by
  obtain ⟨-, h⟩ | ⟨-, -, -, h⟩ | ⟨-, -, h⟩ := readResult_cases q s <;> rw [h]
  · simp
  · simpa only [consume_fault, storeConversion_fault] using
      respondConverted_keeps_fault_bits (conversionOf s).ov _ (consume q (storeConversion (conversionOf s) s))
  · simp

/-- No command clears a bit of `FAULT` (R41, R212). -/
theorem exec_keeps_fault_bits {i : Instr} {s t : State} (h : exec i s = .next t) : t.fault &&& s.fault = s.fault := by
  rcases exec_cases i s t h with
    ⟨-, rfl⟩ | ⟨_, -, -, rfl⟩ | ⟨_, -, -, rfl⟩ | ⟨q, -, rfl⟩ |
    ⟨-, rfl⟩ | ⟨_, -, -, rfl⟩ | ⟨_, -, -, rfl⟩ | ⟨_, -, -, rfl⟩ | ⟨_, -, -, -, rfl⟩ | ⟨_, -, -, -, rfl⟩ |
    ⟨_, -, rfl⟩ | ⟨-, rfl⟩ |
    ⟨-, -, rfl⟩ | ⟨-, -, rfl⟩ | ⟨_, -, -, rfl⟩ | ⟨_, -, -, rfl⟩ |
    ⟨-, rfl⟩ | ⟨_, -, -, rfl⟩ | ⟨_, -, -, rfl⟩ | ⟨-, -, rfl⟩ | ⟨-, -, rfl⟩ |
    ⟨-, -, rfl⟩ | ⟨-, -, -, rfl⟩
  on_goal 23 => exact respondConverted_keeps_fault_bits _ 0 (storeConversion (conversionOf s) s)
  on_goal 4 => exact readResult_keeps_fault_bits q s
  all_goals simp

/-- The operand of a `CRC.CHECK` is the low byte of its word (R83). -/
theorem cmdArg_of_decode_crcCheck {w : CmdWord} {b : Byte} (h : decode w = .ok (.crcCheck b)) : cmdArg w = b := by
  obtain ⟨r, hr, -, hb⟩ := row_of_decode w _ h
  simp only [opcodeTable, List.mem_cons, List.not_mem_nil, or_false] at hr
  rcases hr with rfl | rfl | rfl | rfl | rfl | rfl | rfl | rfl | rfl | rfl | rfl | rfl | rfl <;> simp_all

/-- Settles O36: items 3 and 4 are `Coherent`, items 1 and 2 the ranges of the types; a command step keeps the bits of `FAULT`
and changes `FRM` in one of the ways of O28. -/
theorem reachableStatesMeetAllSixItems : Obligations.ReachableStatesMeetAllSixItems := by
  intro s hs
  obtain ⟨hconv, hdata, hcur⟩ := reachable_coherent hs
  refine ⟨⟨by omega, by omega⟩, by omega, hconv, hdata, fun hf hn => ?_, fun w rest t hin ht => ?_⟩
  · obtain ⟨hv, hres⟩ := hcur hf hn
    exact ⟨hv, fun r hr => hr ▸ (resultsCurrent_iff s).1 hres⟩
  · obtain ⟨hnil, -⟩ | ⟨_, hrst, -⟩ | ⟨_, _, i, hcmd, hd, h⟩ | ⟨_, _, _, hcmd, -, h⟩ := step_cases s
    · simp [hin] at hnil
    · simp [hin] at hrst
    · rw [hin] at hcmd; cases hcmd
      rw [h] at ht
      have hfault := exec_keeps_fault_bits ht
      refine ⟨hfault, ?_⟩
      obtain hsame | ⟨b, rfl, -, -, hstg, hcrc⟩ | ⟨_, -, -, hrest⟩ | ⟨-, hzero⟩ := humidityFrameNeverTorn i _ t ht
      · exact .inl fun k _ => by rw [hsame]
      · exact .inr (.inr ⟨hstg, hcrc.trans (cmdArg_of_decode_crcCheck hd).symm⟩)
      · exact .inl hrest
      · exact .inr (.inl hzero)
    · rw [h] at ht; cases ht
      exact ⟨fault_or_and_self _ _, .inl fun _ _ => rfl⟩

end Sys2Proof.Machine
end

section
/-! SUPPORT. The read map (R42), the bits of `STATUS` (R40) and the reset column (R20), and the statements ReadMapValues,
StatusBitsAreAssembledAtTheRead and ResetStateHoldsTheResetColumn. -/

namespace Sys2Proof.Machine

theorem regOf_reserved : ∀ r : Byte,
    (r ∈ [0x06, 0x07, 0x0D, 0x0E, 0x0F, 0x27, 0x2E, 0x2F, 0x36, 0x37, 0x3E, 0x3F] ∨
      (0x15 ≤ r.toNat ∧ r.toNat ≤ 0x1F) ∨ (0x5A ≤ r.toNat ∧ r.toNat ≤ 0x5F) ∨ 0x6C ≤ r.toNat) → regOf r = none := by
  decide +kernel

theorem regOf_count : (List.range 256).countP (fun n => (regOf (BitVec.ofNat 8 n)).isSome) = 79 := by decide +kernel

/-- Settles O23: every register without side effect is read by `exec_rd_plain`, at the number that R42 gives its name. -/
theorem readMapValues : Obligations.ReadMapValues := by
  refine ⟨fun s reads hreads => ?_, fun s r hr => execRd_reserved r s (regOf_reserved r hr), regOf_count⟩
  have hplain (g : Reg) (hg : ∀ q, g ≠ .result q) : reads g.number (regRead g s) :=
    (hreads _ _).2 (exec_rd_plain g hg s)
  refine ⟨hplain .status nofun, hplain .fault nofun, hplain .crc nofun, hplain .cnt nofun, hplain .calptr nofun,
    hplain .pcnt nofun, hplain .hraw nofun, hplain .traw nofun, hplain .hum nofun, hplain .tempc nofun,
    hplain .tempf nofun, hplain .adcT nofun, hplain .adcP nofun, fun k => ?_, fun k => ?_, fun k => ?_, fun k => ?_,
    fun k => ?_, fun k => ?_⟩
  all_goals rw [BitVec.ofNat_add]
  exacts [hplain (.frm k) nofun, hplain (.stg k) nofun, hplain (.pfrm k) nofun, hplain (.pstg k) nofun,
    hplain (.cal k) nofun, hplain (.coef k) nofun]

theorem getLsbD_append_ofBool_zero {w : Nat} (x : BitVec w) (b : Bool) : (x ++ BitVec.ofBool b).getLsbD 0 = b :=
  BitVec.getLsbD_concat_zero

theorem getLsbD_append_ofBool_succ {w : Nat} (x : BitVec w) (b : Bool) (k : Nat) :
    (x ++ BitVec.ofBool b).getLsbD (k + 1) = x.getLsbD k :=
  BitVec.getLsbD_concat_succ

/-- The bits of `STATUS` from the last appended one up (R40). -/
theorem statusWord_bits (s : State) :
    (statusWord s).getLsbD 0 = hHasData s ∧ (statusWord s).getLsbD 1 = hBusy s ∧ (statusWord s).getLsbD 2 = hCal s ∧
    (statusWord s).getLsbD 3 = s.retry ∧ (statusWord s).getLsbD 4 = calValid s ∧
    (statusWord s).getLsbD 5 = s.pfrmValid ∧ (statusWord s).getLsbD 6 = s.convNeeded ∧
    (statusWord s).getLsbD 7 = s.pHasData ∧ (statusWord s).getLsbD 8 = s.pzero ∧
    ∀ k, (statusWord s).getLsbD (k + 9) = false := by
  simp only [statusWord, BitVec.getLsbD_cast, getLsbD_append_ofBool_zero, getLsbD_append_ofBool_succ,
    BitVec.getLsbD_zero, implies_true, and_true]

theorem hHasData_iff (s : State) : hHasData s = true ↔ (hraw s.frm).toNat ≠ 0 ∨ (traw s.frm).toNat ≠ 0 := by
  simp [hHasData, BitVec.toNat_eq]

/-- Settles O53: the data of the read is `statusWord`, whose bits `statusWord_bits` gives. -/
theorem statusBitsAreAssembledAtTheRead : Obligations.StatusBitsAreAssembledAtTheRead := by
  refine ⟨fun s => ⟨statusWord s, exec_rd_plain .status nofun s, ?_⟩, exec_rd_plain .status nofun State.reset⟩
  obtain ⟨h0, h1, h2, h3, h4, h5, h6, h7, h8, hhigh⟩ := statusWord_bits s
  refine ⟨h0 ▸ hHasData_iff s, h1, h2, h3, h4 ▸ calValid_iff s, h5, h6, h7, h8, fun k hk => ?_⟩
  obtain ⟨j, rfl⟩ := Nat.exists_eq_add_of_le' hk
  exact hhigh j

/-- Settles O10. -/
theorem resetStateHoldsTheResetColumn : Obligations.ResetStateHoldsTheResetColumn := by
  refine ⟨rfl, rfl, ?_, ?_, rfl, ?_, rfl, ?_, rfl, ?_, rfl, rfl, rfl, rfl, rfl, rfl, rfl, rfl⟩ <;>
    exact fun k => Vector.getElem_replicate k.isLt

end Sys2Proof.Machine
end

section
/-! SUPPORT. Runs of presented commands: a command neither reads nor writes what is still to come, so a run of
`present (i :: is) s` is `exec i s` and then a run of `is`. -/

namespace Sys2Proof.Machine

theorem respondConverted_present (is : List Instr) (ov : Bool) (d : Data) (s : State) :
    respondConverted ov d (present is s) = present is (respondConverted ov d s) := by
  cases ov <;> rfl

theorem readResult_present (is : List Instr) (q : ResultReg) (s : State) :
    readResult q (present is s) = present is (readResult q s) := by
  unfold readResult
  simp only [apply_ite (present is), respondConverted]
  cases q <;> rfl

/-- Presenting further commands commutes with executing one: every guard and every update of a meaning is the same in
`present is s` as in `s`. -/
theorem exec_present (is : List Instr) {i : Instr} {s t : State} (h : exec i s = .next t) :
    exec i (present is s) = .next (present is t) := by
  rcases exec_cases i s t h with
    ⟨rfl, rfl⟩ | ⟨r, rfl, hr, rfl⟩ | ⟨g, rfl, hg, rfl⟩ | ⟨q, rfl, rfl⟩ |
    ⟨rfl, rfl⟩ | ⟨_, rfl, hn, rfl⟩ | ⟨_, rfl, hn, rfl⟩ | ⟨_, rfl, hn, rfl⟩ | ⟨_, rfl, hn, hb, rfl⟩ | ⟨_, rfl, hn, hb, rfl⟩ |
    ⟨_, rfl, rfl⟩ | ⟨rfl, rfl⟩ |
    ⟨rfl, hp, rfl⟩ | ⟨rfl, hp, rfl⟩ | ⟨_, rfl, hp, rfl⟩ | ⟨_, rfl, hp, rfl⟩ |
    ⟨rfl, rfl⟩ | ⟨_, rfl, hn, rfl⟩ | ⟨_, rfl, hn, rfl⟩ | ⟨rfl, hn, rfl⟩ | ⟨rfl, hn, rfl⟩ |
    ⟨rfl, hr, rfl⟩ | ⟨rfl, hf, hp, rfl⟩
  · rfl
  · exact execRd_reserved r _ hr
  · refine (execRd_plain g hg _).trans ?_
    cases g <;> rfl
  · exact (execRd_result q _).trans (congrArg _ (readResult_present is q s))
  · rfl
  · exact if_pos hn
  · exact if_neg hn
  · exact exec_crcCheck_of_badlen _ hn
  · exact exec_crcCheck_of_match hn hb
  · exact exec_crcCheck_of_mismatch hn hb
  · rfl
  · rfl
  · exact if_pos ((calValid_iff s).2 hp)
  · exact if_neg (mt (calValid_iff s).1 hp)
  · exact if_pos ((calValid_iff s).2 hp)
  · exact if_neg (mt (calValid_iff s).1 hp)
  · rfl
  · exact if_pos hn
  · exact if_neg hn
  · exact if_pos hn
  · exact if_neg (not_not.2 hn)
  · exact if_pos (hr.imp_right (calValid_eq_false_iff s).2)
  · have hready : ¬((present is s).pfrmValid = false ∨ calValid (present is s) = false) := by
      simp [present, calValid, hf, hp]
    exact (if_neg hready).trans (congrArg _ (respondConverted_present is _ 0 (storeConversion (conversionOf s) s)))

theorem run_succ_of_step {s t : State} (n : Nat) (h : step s = .next t) :
    Host.Core.run Sys2Proof.core (n + 1) s = Host.Core.run Sys2Proof.core n t := by
  have hcore : Sys2Proof.core.step s = .next t := h
  simp only [Host.Core.run, hcore]

theorem run_present_cons {i : Instr} {s t : State} (is : List Instr) (n : Nat) (hd : decode (encode i) = .ok i)
    (h : exec i s = .next t) :
    Host.Core.run Sys2Proof.core (n + 1) (present (i :: is) s) = Host.Core.run Sys2Proof.core n (present is t) := by
  have hstep : step (present (i :: is) s) = exec i (present is s) := step_of_decode_ok _ _ _ i rfl hd
  exact run_succ_of_step n (hstep.trans (exec_present is h))

end Sys2Proof.Machine
end

section
/-! SUPPORT. The bytes of a frame on their way into the CRC unit (R23 to R25) and the statement StreamedBytesAccumulate. -/

namespace Sys2Proof.Machine

theorem decode_encode_crcInit : decode (encode .crcInit) = .ok .crcInit := by rfl

theorem decode_encode_crcByte (b : Byte) : decode (encode (.crcByte b)) = .ok (.crcByte b) := by
  revert b
  decide +kernel

/-- The state after `CRC.INIT` (R102). -/
def restartCrc (s : State) : State := respond .ok 0 (initCrcUnit s)

theorem exec_crcInit (s : State) : exec .crcInit s = .next (restartCrc s) := rfl

/-- The state after a `CRC.BYTE` that is accepted (R103). -/
def acceptCrcByte (s : State) (b : Byte) : State :=
  respond .ok 0 { s with stg := putByte s.stg s.cnt b, crc := crcStep s.crc b, cnt := s.cnt + 1 }

theorem exec_crcByte_of_lt (b : Byte) {s : State} (h : s.cnt.val < 6) :
    exec (.crcByte b) s = .next (acceptCrcByte s b) :=
  if_pos h

theorem cnt_acceptCrcByte {s : State} (h : s.cnt.val < 6) (b : Byte) :
    (acceptCrcByte s b).cnt.val = s.cnt.val + 1 := by
  simp only [acceptCrcByte, respond_cnt]
  omega

theorem stg_acceptCrcByte (s : State) (b : Byte) (k : Nat) (hk : k < 6) :
    (acceptCrcByte s b).stg[k] = if s.cnt.val = k then b else s.stg[k] :=
  getElem_putByte s.stg s.cnt b k hk

theorem run_crcBytes (bs : List Byte) (s : State) (h : s.cnt.val + bs.length ≤ 6) :
    Host.Core.run Sys2Proof.core bs.length (present (bs.map .crcByte) s) = .next (bs.foldl acceptCrcByte s) := by
  induction bs generalizing s with
  | nil => rfl
  | cons b bs ih =>
    rw [List.length_cons] at h
    have hlt : s.cnt.val < 6 := by omega
    rw [List.length_cons, List.map_cons, run_present_cons _ _ (decode_encode_crcByte b) (exec_crcByte_of_lt b hlt)]
    exact ih _ (by rw [cnt_acceptCrcByte hlt]; omega)

theorem crc_foldl_acceptCrcByte (bs : List Byte) (s : State) :
    (bs.foldl acceptCrcByte s).crc = bs.foldl crcStep s.crc :=
  (List.foldl_hom State.crc (fun _ _ => rfl)).symm

theorem cnt_foldl_acceptCrcByte (bs : List Byte) (s : State) (h : s.cnt.val + bs.length ≤ 6) :
    (bs.foldl acceptCrcByte s).cnt.val = s.cnt.val + bs.length := by
  induction bs generalizing s with
  | nil => rfl
  | cons b bs ih =>
    rw [List.length_cons] at h
    have hb := cnt_acceptCrcByte (s := s) (by omega) b
    rw [List.foldl_cons, ih _ (by omega), hb, List.length_cons]
    omega

/-- The bytes stand from the old count on, in arrival order; every other staged byte is as before (R24). -/
theorem stg_foldl_acceptCrcByte (bs : List Byte) (s : State) (h : s.cnt.val + bs.length ≤ 6) (k : Nat) (hk : k < 6) :
    (bs.foldl acceptCrcByte s).stg[k] = if k < s.cnt.val then s.stg[k] else bs.getD (k - s.cnt.val) s.stg[k] := by
  induction bs generalizing s with
  | nil => simp
  | cons b bs ih =>
    rw [List.length_cons] at h
    have hb := cnt_acceptCrcByte (s := s) (by omega) b
    rw [List.foldl_cons, ih _ (by omega), hb, stg_acceptCrcByte]
    rcases lt_trichotomy k s.cnt.val with hlt | rfl | hgt
    · rw [if_pos (by omega), if_neg (by omega), if_pos hlt]
    · simp
    · obtain ⟨j, rfl⟩ : ∃ j, k = s.cnt.val + 1 + j := Nat.exists_eq_add_of_le hgt
      have hj : s.cnt.val + 1 + j - s.cnt.val = j + 1 := by omega
      rw [if_neg (by omega), if_neg (by omega), if_neg (by omega), hj]
      simp

theorem frame_foldl_acceptCrcByte (bs : List Byte) (s : State) :
    bs.foldl acceptCrcByte s = { s with
      crc := (bs.foldl acceptCrcByte s).crc, cnt := (bs.foldl acceptCrcByte s).cnt,
      stg := (bs.foldl acceptCrcByte s).stg, rsps := s.rsps ++ List.replicate bs.length ⟨.ok, 0⟩ } := by
  induction bs generalizing s with
  | nil => simp
  | cons b bs ih =>
    rw [List.foldl_cons, ih]
    simp [acceptCrcByte, respond, List.replicate_succ]

/-- Settles O43: the run is `restartCrc` and then a fold of `acceptCrcByte`, whose elements have a lemma each. -/
theorem streamedBytesAccumulate : Obligations.StreamedBytesAccumulate := by
  intro s bs hlen
  have hcnt : (restartCrc s).cnt.val + bs.length ≤ 6 := by simpa [restartCrc] using hlen
  refine ⟨bs.foldl acceptCrcByte (restartCrc s), ?_, crc_foldl_acceptCrcByte bs _, ?_, fun k hk h6 => ?_,
    fun k hk => ?_, ?_⟩
  · rw [run_present_cons _ _ decode_encode_crcInit (exec_crcInit s)]
    exact run_crcBytes bs _ hcnt
  · rw [cnt_foldl_acceptCrcByte bs _ hcnt]
    simp [restartCrc]
  · rw [stg_foldl_acceptCrcByte bs _ hcnt]
    simp [restartCrc, hk]
  · refine (stg_foldl_acceptCrcByte bs _ hcnt k.val k.isLt).trans ?_
    simp [restartCrc, hk]
  · rw [frame_foldl_acceptCrcByte]
    simp [restartCrc, respond, initCrcUnit, List.replicate_succ]

end Sys2Proof.Machine
end

section
/-! SUPPORT. What `RD` does by register number (R42, R68), a result register read twice (R196), and the statement
OnlyResultReadsHaveSideEffects. -/

namespace Sys2Proof.Machine

/-- A number that names no result register is reserved or names a register whose read only responds, in every state. -/
theorem exec_rd_of_not_result {n : Byte} (hn : ∀ q, n ≠ Reg.number (.result q)) :
    (regOf n = none ∧ ∀ s, exec (.rd n) s = .next (faultRespond .illegal 0 s)) ∨
    (∃ g, regOf n = some g ∧ ∀ s, exec (.rd n) s = .next (respond .ok (regRead g s) s)) := by
  cases hr : regOf n with
  | none => exact .inl ⟨rfl, fun s => execRd_reserved n s hr⟩
  | some g =>
    obtain rfl := number_of_regOf n g hr
    exact .inr ⟨g, rfl, exec_rd_plain g fun q hg => hn q (congrArg _ hg)⟩

theorem faultRespond_illegal (d : Data) (s : State) :
    faultRespond .illegal d s = { s with fault := s.fault ||| 1, rsps := s.rsps ++ [⟨.illegal, d⟩] } := rfl

/-- A read of a number other than 0x12, 0x13 and 0x14 changes the response and, for a reserved number, `FAULT.ILLEGAL`. -/
theorem exec_rd_of_not_result_frame {n : Byte} (hn : ∀ q, n ≠ Reg.number (.result q)) {s t : State}
    (h : exec (.rd n) s = .next t) :
    ∃ r : Response, t = { s with fault := if regOf n = none then s.fault ||| 1 else s.fault, rsps := s.rsps ++ [r] } := by
  obtain ⟨hr, hexec⟩ | ⟨g, hr, hexec⟩ := exec_rd_of_not_result hn <;> rw [hexec] at h <;> cases h
  · exact ⟨⟨.illegal, 0⟩, by rw [if_pos hr, faultRespond_illegal]⟩
  · exact ⟨⟨.ok, regRead g s⟩, by rw [if_neg (by simp [hr])]; rfl⟩

/-- Once read, such a number changes nothing but the response when it is read again. -/
theorem exec_rd_of_not_result_again {n : Byte} (hn : ∀ q, n ≠ Reg.number (.result q)) {s t u : State}
    (h : exec (.rd n) s = .next t) (h' : exec (.rd n) t = .next u) : u = { t with rsps := u.rsps } := by
  obtain ⟨_, rfl⟩ := exec_rd_of_not_result_frame hn h
  obtain ⟨_, rfl⟩ := exec_rd_of_not_result_frame hn h'
  split <;> simp [BitVec.or_assoc]

/-- There is nothing to consume for a read that leaves `PHASDATA`, or when it is clear already (R197). -/
theorem consume_eq_self {q : ResultReg} {s : State} (h : q = .pcomp → s.pHasData = false) : consume q s = s := by
  cases q with
  | pcomp => simp [consume, ← h rfl]
  | tfine => rfl
  | tcomp => rfl

theorem readResult_of_refused (q : ResultReg) {s : State}
    (h : s.pfrmValid = false ∨ s.convNeeded = true ∧ calValid s = false) :
    readResult q s = faultRespond .nodata 0 s := by
  obtain ⟨-, hread⟩ | ⟨hf, -, hv, -⟩ | ⟨hf, hn, -⟩ := readResult_cases q s
  · exact hread
  · simp [hf, hv] at h
  · simp [hf, hn] at h

theorem readResult_of_cached (q : ResultReg) {s : State} (hf : s.pfrmValid = true) (hn : s.convNeeded = false) :
    readResult q s = respond .ok (resultValue q s) (consume q s) := by
  simp [readResult, hf, hn]

@[simp] theorem resultValue_respond (q : ResultReg) (c : ResultCode) (d : Data) (s : State) :
    resultValue q (respond c d s) = resultValue q s := rfl

@[simp] theorem resultValue_respondConverted (q : ResultReg) (ov : Bool) (d : Data) (s : State) :
    resultValue q (respondConverted ov d s) = resultValue q s := by
  cases ov <;> rfl

@[simp] theorem resultValue_consume (q p : ResultReg) (s : State) : resultValue q (consume p s) = resultValue q s := by
  cases p <;> rfl

/-- A result read is refused, or it leaves a cached result that is its answer, with nothing more to convert or consume
(R196, R197). -/
theorem readResult_refused_or_cached (q : ResultReg) (s : State) :
    ((s.pfrmValid = false ∨ s.convNeeded = true ∧ calValid s = false) ∧ readResult q s = faultRespond .nodata 0 s) ∨
    ((readResult q s).pfrmValid = true ∧ (readResult q s).convNeeded = false ∧
      (q = .pcomp → (readResult q s).pHasData = false) ∧
      ∃ c, (readResult q s).rsps = s.rsps ++ [⟨c, resultValue q (readResult q s)⟩]) := by
  obtain hrefused | ⟨hf, -, -, h⟩ | ⟨hf, hn, h⟩ := readResult_cases q s
  · exact .inl hrefused
  · refine .inr ?_
    rw [h]
    exact ⟨by simpa using hf, by simp, fun hq => by simp [hq], if (conversionOf s).ov then .ovf else .ok, by simp⟩
  · refine .inr ?_
    rw [h]
    exact ⟨by simpa using hf, by simpa using hn, fun hq => by simp [hq], .ok, by simp⟩

/-- A result register read twice (R68): both reads are refused, or the second repeats the value of the first and changes
nothing but the response. -/
theorem readResult_twice (q : ResultReg) (s : State) :
    (readResult q s = faultRespond .nodata 0 s ∧
      readResult q (readResult q s) = faultRespond .nodata 0 (readResult q s)) ∨
    ((∃ c, (readResult q s).rsps = s.rsps ++ [⟨c, resultValue q (readResult q s)⟩]) ∧
      readResult q (readResult q s) = respond .ok (resultValue q (readResult q s)) (readResult q s)) := by
  obtain ⟨hr, h⟩ | ⟨hf, hn, hd, hc⟩ := readResult_refused_or_cached q s
  · exact .inl ⟨h, readResult_of_refused q (by rw [h]; exact hr)⟩
  · exact .inr ⟨hc, by rw [readResult_of_cached q hf hn, consume_eq_self hd]⟩

/-- A committed frame and a loaded calibration, not yet converted. -/
def unconverted : State :=
  { State.reset with calptr := 26, pfrmValid := true, convNeeded := true, pHasData := true }

theorem readResult_unconverted_convNeeded (q : ResultReg) : (readResult q unconverted).convNeeded = false := by
  rw [← Bool.not_eq_true, readResult_convNeeded_iff]
  exact fun h => h.2 ⟨rfl, rfl⟩

theorem readResult_pcomp_unconverted_pHasData : (readResult .pcomp unconverted).pHasData = false := by
  rw [← Bool.not_eq_true, readResult_pHasData_iff]
  exact fun h => h.2 ⟨rfl, rfl, fun _ => rfl⟩

/-- Settles O33: `unconverted` shows the side effects of the three result reads, `exec_rd_of_not_result_frame` that no other
number has one, and `readResult_twice` that a result read again adds only its response and the fault bit of a refusal. -/
theorem onlyResultReadsHaveSideEffects : Obligations.OnlyResultReadsHaveSideEffects := by
  refine ⟨fun n hn => ?_, ?_, fun n s t h12 h13 h14 h => ?_, fun n s t u hn h h' => ?_⟩
  · obtain ⟨q, rfl⟩ := (number_result_iff n).2 hn
    exact ⟨unconverted, _, exec_rd_result q _, rfl, readResult_unconverted_convNeeded q⟩
  · exact ⟨unconverted, _, exec_rd_result .pcomp _, rfl, readResult_pcomp_unconverted_pHasData⟩
  · have hplain : ∀ q, n ≠ Reg.number (.result q) :=
      not_exists.1 fun hq => ((number_result_iff n).1 hq).elim h12 (Or.elim · h13 h14)
    exact ⟨exec_rd_of_not_result_frame hplain h, fun u => exec_rd_of_not_result_again hplain h⟩
  · obtain ⟨q, rfl⟩ := (number_result_iff n).2 hn
    rw [exec_rd_result] at h h'
    cases h; cases h'
    obtain ⟨h, h'⟩ | ⟨⟨c, hc⟩, h'⟩ := readResult_twice q s <;> rw [h']
    · exact ⟨⟨.nodata, 0⟩, ⟨.nodata, 0⟩, by rw [h]; rfl, rfl, rfl, ⟨rfl, rfl, rfl, rfl⟩, rfl, rfl⟩
    · exact ⟨⟨c, _⟩, ⟨.ok, _⟩, hc, rfl, rfl, ⟨rfl, rfl, rfl, rfl⟩, rfl, rfl⟩

end Sys2Proof.Machine
end

section
/-! SUPPORT. The opcode map and its inverse (R80 to R85): what a row accepts, which row that is, which pairs of fields are a
command, and the statements DecodeOfEncodeIsTheInstruction, EncodeOfDecodeIsTheWord, OpcodeMapRowsAreExactAndDisjoint,
DecodingFollowsOpAndArg and SampleWordsDecode. -/

namespace Sys2Proof

theorem toNat_append_byte {w : Nat} (x : BitVec w) (b : Byte) : (x ++ b).toNat = x.toNat * 256 + b.toNat := by
  rw [BitVec.toNat_append, Nat.shiftLeft_eq, Nat.mul_comm, Nat.two_pow_add_eq_or_of_lt b.isLt]

theorem toNat_wordOf (op arg : Byte) : (wordOf op arg).toNat = op.toNat * 256 + arg.toNat := by
  rw [wordOf, BitVec.toNat_cast, toNat_append_byte]

theorem eq_wordOf_of_toNat {w : CmdWord} {op arg : Byte} (h : w.toNat = op.toNat * 256 + arg.toNat) :
    w = wordOf op arg :=
  BitVec.eq_of_toNat_eq (h.trans (toNat_wordOf op arg).symm)

theorem wordOf_eq_iff (op arg : Byte) (w : CmdWord) : wordOf op arg = w ↔ op = cmdOp w ∧ arg = cmdArg w := by
  constructor
  · rintro rfl
    simp
  · rintro ⟨rfl, rfl⟩
    exact wordOf_fields w

theorem wordOf_and_wordOf (op arg op' arg' : Byte) :
    wordOf op arg &&& wordOf op' arg' = wordOf (op &&& op') (arg &&& arg') := by
  simp only [wordOf, BitVec.and_cast, BitVec.and_append]

/-- A row of format B or R accepts the words of its opcode. -/
theorem and_opMask_eq_iff (op : Byte) (w : CmdWord) : w &&& 0xFF00 = wordOf op 0 ↔ wordOf op (cmdArg w) = w := by
  have hmask : w &&& 0xFF00 = wordOf (cmdOp w) 0#8 := by
    calc w &&& 0xFF00 = wordOf (cmdOp w) (cmdArg w) &&& wordOf (BitVec.allOnes 8) 0#8 := by rw [wordOf_fields]; rfl
      _ = wordOf (cmdOp w) 0#8 := by rw [wordOf_and_wordOf, BitVec.and_allOnes, BitVec.and_zero]
  rw [hmask, eq_comm, wordOf_eq_iff, wordOf_eq_iff]
  simp

/-- A row of format Z accepts one word. -/
theorem and_fullMask_eq_iff (v w : CmdWord) : w &&& 0xFFFF = v ↔ v = w := by
  rw [show (0xFFFF : CmdWord) = BitVec.allOnes 16 from rfl, BitVec.and_allOnes, eq_comm]

/-- A row accepts a word exactly when the word is the one of the command that the row builds from it. -/
theorem row_accepts_iff : ∀ r ∈ opcodeTable, ∀ w : CmdWord,
    w &&& r.mask = r.pattern ↔ encode (r.build (cmdArg w)) = w := by
  simp only [opcodeTable, List.forall_mem_cons]
  exact ⟨and_fullMask_eq_iff _, and_opMask_eq_iff 0x01, and_fullMask_eq_iff _, and_opMask_eq_iff 0x11,
    and_opMask_eq_iff 0x12, and_opMask_eq_iff 0x20, and_fullMask_eq_iff _, and_fullMask_eq_iff _, and_opMask_eq_iff 0x31,
    and_fullMask_eq_iff _, and_opMask_eq_iff 0x41, and_fullMask_eq_iff _, and_fullMask_eq_iff _, nofun⟩

/-- Two patterns that differ where both masks look have no word in common. -/
theorem no_common_word {a b : OpRow} (h : a.pattern &&& b.mask ≠ b.pattern &&& a.mask) (w : CmdWord) :
    ¬(w &&& a.mask = a.pattern ∧ w &&& b.mask = b.pattern) := by
  rintro ⟨ha, hb⟩
  rw [← ha, ← hb, BitVec.and_assoc, BitVec.and_assoc, BitVec.and_comm a.mask] at h
  exact h rfl

theorem opcodeTable_disjoint :
    opcodeTable.Pairwise (fun a b => ∀ w : CmdWord, ¬(w &&& a.mask = a.pattern ∧ w &&& b.mask = b.pattern)) :=
  List.Pairwise.imp no_common_word (by decide)

theorem row_unique {a b : OpRow} (ha : a ∈ opcodeTable) (hb : b ∈ opcodeTable) {w : CmdWord}
    (haw : w &&& a.mask = a.pattern) (hbw : w &&& b.mask = b.pattern) : a = b := by
  have hsymm : Std.Symm fun a b : OpRow => ∀ w : CmdWord, ¬(w &&& a.mask = a.pattern ∧ w &&& b.mask = b.pattern) :=
    ⟨fun _ _ h w hw => h w hw.symm⟩
  by_contra hne
  exact opcodeTable_disjoint.forall ha hb hne w ⟨haw, hbw⟩

/-- Decoding is the map (R84): as no two rows share a word, the first row that accepts is the only one. -/
theorem decode_eq_ok_iff (w : CmdWord) (i : Instr) :
    decode w = .ok i ↔ ∃ r ∈ opcodeTable, w &&& r.mask = r.pattern ∧ i = r.build (cmdArg w) := by
  constructor
  · intro h
    obtain ⟨r, hr, hacc, hi⟩ := row_of_decode w i h
    exact ⟨r, hr, beq_iff_eq.1 hacc, hi.symm⟩
  · rintro ⟨r, hr, hacc, rfl⟩
    cases hd : decode w with
    | ok j =>
      obtain ⟨q, hq, hqacc, rfl⟩ := row_of_decode w j hd
      rw [row_unique hr hq hacc (beq_iff_eq.1 hqacc)]
    | error e => exact absurd hacc (beq_eq_false_iff_ne.1 (no_row_of_rejected w e hd r hr))

/-- Every command has a row that builds it from its word. -/
theorem row_of_instr (i : Instr) : ∃ r ∈ opcodeTable, i = r.build (cmdArg (encode i)) := by
  cases i with
  | nop => exact ⟨opcodeTable[0], List.getElem_mem _, rfl⟩
  | rd reg => exact ⟨opcodeTable[1], List.getElem_mem _, congrArg Instr.rd (cmdArg_wordOf _ reg).symm⟩
  | crcInit => exact ⟨opcodeTable[2], List.getElem_mem _, rfl⟩
  | crcByte b => exact ⟨opcodeTable[3], List.getElem_mem _, congrArg Instr.crcByte (cmdArg_wordOf _ b).symm⟩
  | crcCheck b => exact ⟨opcodeTable[4], List.getElem_mem _, congrArg Instr.crcCheck (cmdArg_wordOf _ b).symm⟩
  | hStatus b => exact ⟨opcodeTable[5], List.getElem_mem _, congrArg Instr.hStatus (cmdArg_wordOf _ b).symm⟩
  | hClear => exact ⟨opcodeTable[6], List.getElem_mem _, rfl⟩
  | calInit => exact ⟨opcodeTable[7], List.getElem_mem _, rfl⟩
  | calByte b => exact ⟨opcodeTable[8], List.getElem_mem _, congrArg Instr.calByte (cmdArg_wordOf _ b).symm⟩
  | pInit => exact ⟨opcodeTable[9], List.getElem_mem _, rfl⟩
  | pByte b => exact ⟨opcodeTable[10], List.getElem_mem _, congrArg Instr.pByte (cmdArg_wordOf _ b).symm⟩
  | pCommit => exact ⟨opcodeTable[11], List.getElem_mem _, rfl⟩
  | convert => exact ⟨opcodeTable[12], List.getElem_mem _, rfl⟩

/-- Settles O2: the row that builds the instruction accepts its word, and decoding is the map. -/
theorem decodeOfEncodeIsTheInstruction : Obligations.DecodeOfEncodeIsTheInstruction := by
  intro i
  obtain ⟨r, hr, hi⟩ := row_of_instr i
  exact (decode_eq_ok_iff _ i).2 ⟨r, hr, (row_accepts_iff r hr _).2 (congrArg encode hi.symm), hi⟩

/-- Settles O3: the row that accepts the word builds a command whose word it is. -/
theorem encodeOfDecodeIsTheWord : Obligations.EncodeOfDecodeIsTheWord := by
  intro w i h
  obtain ⟨r, hr, hacc, rfl⟩ := (decode_eq_ok_iff w i).1 h
  exact (row_accepts_iff r hr w).1 hacc

/-- Settles O4: the rows by evaluation, the rest by the two lemmas on the map. -/
theorem opcodeMapRowsAreExactAndDisjoint : Obligations.OpcodeMapRowsAreExactAndDisjoint :=
  ⟨rfl, opcodeTable_disjoint, decode_eq_ok_iff⟩

theorem fields_of_encode_wellFormed (i : Instr) : (fieldsOf (encode i)).wellFormed = true := by
  cases i with
  | nop => exact Laws.EncodesWellFormed.nop.1
  | rd reg => exact (Laws.EncodesWellFormed.rd reg).1
  | crcInit => exact Laws.EncodesWellFormed.crcInit.1
  | crcByte b => exact (Laws.EncodesWellFormed.crcByte b).1
  | crcCheck b => exact (Laws.EncodesWellFormed.crcCheck b).1
  | hStatus b => exact (Laws.EncodesWellFormed.hStatus b).1
  | hClear => exact Laws.EncodesWellFormed.hClear.1
  | calInit => exact Laws.EncodesWellFormed.calInit.1
  | calByte b => exact (Laws.EncodesWellFormed.calByte b).1
  | pInit => exact Laws.EncodesWellFormed.pInit.1
  | pByte b => exact (Laws.EncodesWellFormed.pByte b).1
  | pCommit => exact Laws.EncodesWellFormed.pCommit.1
  | convert => exact Laws.EncodesWellFormed.convert.1

theorem not_mem_argOps_of_mem_zOps : ∀ op ∈ zOps, op ∉ argOps := by decide

/-- R85 read as a rule: a Z opcode with `arg = 0`, or one of the other six with any `arg`. -/
theorem wellFormed_iff (op arg : Byte) :
    (Fields.mk op arg).wellFormed = true ↔ op ∈ zOps ∧ arg = 0 ∨ op ∈ argOps := by
  have hdisjoint := not_mem_argOps_of_mem_zOps op
  simp only [Fields.wellFormed, Fields.opAssigned, Fields.argAllowed, Bool.and_eq_true, Bool.or_eq_true,
    Bool.not_eq_true', beq_iff_eq, List.contains_eq_mem, decide_eq_true_eq, decide_eq_false_iff_not]
  tauto

theorem exists_encode_of_mem_zOps {op : Byte} (h : op ∈ zOps) : ∃ i, encode i = wordOf op 0 := by
  simp only [zOps, List.mem_cons, List.not_mem_nil, or_false] at h
  obtain rfl | rfl | rfl | rfl | rfl | rfl | rfl := h
  exacts [⟨.nop, rfl⟩, ⟨.crcInit, rfl⟩, ⟨.hClear, rfl⟩, ⟨.calInit, rfl⟩, ⟨.pInit, rfl⟩, ⟨.pCommit, rfl⟩, ⟨.convert, rfl⟩]

theorem exists_encode_of_mem_argOps {op : Byte} (h : op ∈ argOps) (arg : Byte) : ∃ i, encode i = wordOf op arg := by
  simp only [argOps, List.mem_cons, List.not_mem_nil, or_false] at h
  obtain rfl | rfl | rfl | rfl | rfl | rfl := h
  exacts [⟨.rd arg, rfl⟩, ⟨.crcByte arg, rfl⟩, ⟨.crcCheck arg, rfl⟩, ⟨.hStatus arg, rfl⟩, ⟨.calByte arg, rfl⟩,
    ⟨.pByte arg, rfl⟩]

/-- The commands' words are the words with well-formed fields (R85). -/
theorem exists_encode_eq_iff (w : CmdWord) : (∃ i, encode i = w) ↔ (fieldsOf w).wellFormed = true := by
  constructor
  · rintro ⟨i, rfl⟩
    exact fields_of_encode_wellFormed i
  · intro h
    rw [← wordOf_fields w]
    obtain ⟨hop, harg⟩ | hop := (wellFormed_iff (cmdOp w) (cmdArg w)).1 h
    · rw [harg]
      exact exists_encode_of_mem_zOps hop
    · exact exists_encode_of_mem_argOps hop _

/-- A word is rejected exactly when its fields are not well formed (R85, R88). -/
theorem decode_eq_error_iff (w : CmdWord) : (∃ e, decode w = .error e) ↔ (fieldsOf w).wellFormed = false := by
  rw [← Bool.not_eq_true, ← exists_encode_eq_iff]
  constructor
  · rintro ⟨e, he⟩ ⟨i, rfl⟩
    cases (decodeOfEncodeIsTheInstruction i).symm.trans he
  · intro hnone
    cases hd : decode w with
    | ok i => exact absurd ⟨i, encodeOfDecodeIsTheWord w i hd⟩ hnone
    | error e => exact ⟨e, rfl⟩

theorem decode_wordOf_eq_error {op arg : Byte} (h : ¬(op ∈ zOps ∧ arg = 0 ∨ op ∈ argOps)) :
    ∃ e, decode (wordOf op arg) = .error e := by
  rw [decode_eq_error_iff, ← Bool.not_eq_true]
  simpa only [fieldsOf, cmdOp_wordOf, cmdArg_wordOf, wellFormed_iff] using h

/-- Settles O5: an opcode and an `arg` that make a command are the fields of its word, and all others are rejected. -/
theorem decodingFollowsOpAndArg : Obligations.DecodingFollowsOpAndArg := by
  intro w op arg hw
  obtain rfl := eq_wordOf_of_toNat hw
  have hencode := decodeOfEncodeIsTheInstruction
  refine ⟨?_, ?_, ?_, ?_, ?_, ?_, ?_, ?_, ?_, ?_, ?_, ?_, ?_, fun harg hop => ?_, fun hop => ?_⟩
  · rintro rfl rfl; exact hencode .nop
  · rintro rfl rfl; exact hencode .crcInit
  · rintro rfl rfl; exact hencode .hClear
  · rintro rfl rfl; exact hencode .calInit
  · rintro rfl rfl; exact hencode .pInit
  · rintro rfl rfl; exact hencode .pCommit
  · rintro rfl rfl; exact hencode .convert
  · rintro rfl; exact hencode (.rd arg)
  · rintro rfl; exact hencode (.crcByte arg)
  · rintro rfl; exact hencode (.crcCheck arg)
  · rintro rfl; exact hencode (.hStatus arg)
  · rintro rfl; exact hencode (.calByte arg)
  · rintro rfl; exact hencode (.pByte arg)
  · have hnot : op ∉ argOps := not_mem_argOps_of_mem_zOps op hop
    exact decode_wordOf_eq_error fun h => h.elim (fun hz => harg hz.2) hnot
  · rw [show [0x00, 0x10, 0x21, 0x30, 0x40, 0x42, 0x50, 0x01, 0x11, 0x12, 0x20, 0x31, 0x41] = zOps ++ argOps from rfl,
      List.mem_append, not_or] at hop
    exact decode_wordOf_eq_error fun h => h.elim (fun hz => hop.1 hz.1) hop.2

/-- Settles O1. -/
theorem sampleWordsDecode : Obligations.SampleWordsDecode := by
  unfold Obligations.SampleWordsDecode
  decide

end Sys2Proof
end

section
/-! SUPPORT. The illegal words (R88): what the step on one does, how many there are, and the statement
IllegalWordSetsOneStickyBit. -/

namespace Sys2Proof.Machine

/-- The words that no row accepts are those whose fields are not well formed. -/
theorem no_row_iff (w : CmdWord) :
    (∀ r ∈ opcodeTable, w &&& r.mask ≠ r.pattern) ↔ (fieldsOf w).wellFormed = false := by
  rw [← Bool.not_eq_true, ← exists_encode_eq_iff]
  constructor
  · rintro hnone ⟨i, rfl⟩
    obtain ⟨r, hr, hacc, -⟩ := (decode_eq_ok_iff _ i).1 (decodeOfEncodeIsTheInstruction i)
    exact hnone r hr hacc
  · exact fun hnone r hr hacc => hnone ⟨_, (row_accepts_iff r hr w).1 hacc⟩

theorem step_of_decode_error (s : State) (w : CmdWord) (rest : List Input) (e : DecodeError)
    (h : s.inputs = .cmd w :: rest) (hd : decode w = .error e) :
    step s = .next (illegalCommand { s with inputs := rest }) := by
  simp [step, takeInput_cons s _ _ h, hd]

/-- How many of the 256 values of `arg` are illegal with an opcode (R85). -/
def illegalArgs (op : Byte) : Nat := if op ∈ zOps then 255 else if op ∈ argOps then 0 else 256

theorem ofNat_eq_wordOf (op : Nat) {arg : Nat} (harg : arg < 256) :
    BitVec.ofNat 16 (op * 256 + arg) = wordOf (BitVec.ofNat 8 op) (BitVec.ofNat 8 arg) := by
  apply eq_wordOf_of_toNat
  simp only [BitVec.toNat_ofNat]
  omega

theorem all_rows_reject_eq (op arg : Byte) :
    opcodeTable.all (fun r => wordOf op arg &&& r.mask != r.pattern) = !(Fields.mk op arg).wellFormed := by
  rw [Bool.eq_iff_iff]
  simpa [fieldsOf] using no_row_iff (wordOf op arg)

theorem countP_ill_formed (op : Byte) :
    (List.range 256).countP (fun arg => !(Fields.mk op (BitVec.ofNat 8 arg)).wellFormed) = illegalArgs op := by
  have hform (arg : Byte) : (Fields.mk op arg).wellFormed = decide (op ∈ zOps ∧ arg = 0 ∨ op ∈ argOps) :=
    Bool.eq_iff_iff.2 ((wellFormed_iff op arg).trans decide_eq_true_iff.symm)
  simp only [hform, illegalArgs]
  by_cases hz : op ∈ zOps
  · simp only [hz, not_mem_argOps_of_mem_zOps op hz, true_and, or_false, if_true]
    decide +kernel
  · by_cases ha : op ∈ argOps <;> simp [hz, ha]

theorem sum_illegalArgs : ((List.range 256).map fun op => illegalArgs (BitVec.ofNat 8 op)).sum = 63993 := by
  decide +kernel

/-- Settles O6: the step is `illegalCommand`, and the illegal words are counted opcode by opcode. -/
theorem illegalWordSetsOneStickyBit : Obligations.IllegalWordSetsOneStickyBit := by
  constructor
  · intro s w rest hin hnone
    obtain ⟨e, he⟩ := (decode_eq_error_iff w).2 ((no_row_iff w).1 hnone)
    exact ⟨_, step_of_decode_error s w rest e hin he, rfl, fun w' rest' i hrest hd => step_of_decode_ok _ w' rest' i hrest hd⟩
  · refine (congrArg List.sum (List.map_congr_left fun op _ => ?_)).trans sum_illegalArgs
    rw [← countP_ill_formed]
    refine List.countP_congr fun arg harg => ?_
    rw [ofNat_eq_wordOf op (List.mem_range.1 harg), all_rows_reject_eq]

end Sys2Proof.Machine
end

section
/-! SUPPORT. The one response of every command and the `FAULT` bit its code names (R82, R211, R212), and the statement
OneResponseAndItsFaultBit. -/

namespace Sys2Proof.Machine

/-- From `s` to `t` one response `r` was given, and its code says what became of `FAULT` (R211, R212). -/
def Answers (s t : State) (r : Response) : Prop :=
  t.rsps = s.rsps ++ [r] ∧ (r.code.bits.toNat < 2 → t.fault = s.fault) ∧
    (2 ≤ r.code.bits.toNat → t.fault = s.fault ||| (1#5 <<< (r.code.bits.toNat - 2)))

/-- Code 0 or 1 given from a state with the old `FAULT` (R211). -/
theorem answers_respond {c : ResultCode} (hc : c = .ok ∨ c = .mismatch) (d : Data) {s u : State}
    (hr : u.rsps = s.rsps) (hf : u.fault = s.fault) : Answers s (respond c d u) ⟨c, d⟩ := by
  have hcode : c.bits.toNat < 2 := by obtain rfl | rfl := hc <;> decide
  exact ⟨congrArg (· ++ _) hr, fun _ => hf, fun h => absurd hcode (Nat.not_lt.2 h)⟩

/-- The code of a fault is its bit number and 2 (R41, R211). -/
theorem toNat_code_bits (f : FaultBit) : f.code.bits.toNat = f.index + 2 := by
  cases f <;> rfl

theorem answers_faultRespond (f : FaultBit) (d : Data) {s u : State} (hr : u.rsps = s.rsps) (hf : u.fault = s.fault) :
    Answers s (faultRespond f d u) ⟨f.code, d⟩ := by
  have hbits := toNat_code_bits f
  refine ⟨congrArg (· ++ _) hr, fun h => ?_, fun _ => ?_⟩
  · dsimp only at h
    omega
  · dsimp only
    rw [hbits, Nat.add_sub_cancel, ← hf]
    rfl

theorem answers_respondConverted (ov : Bool) (d : Data) {s u : State} (hr : u.rsps = s.rsps) (hf : u.fault = s.fault) :
    ∃ c, Answers s (respondConverted ov d u) ⟨c, d⟩ := by
  cases ov with
  | true => exact ⟨_, answers_faultRespond .ovf d hr hf⟩
  | false => exact ⟨_, answers_respond (.inl rfl) d hr hf⟩

theorem readResult_answers (q : ResultReg) (s : State) : ∃ r, Answers s (readResult q s) r := by
  obtain ⟨-, h⟩ | ⟨-, -, -, h⟩ | ⟨-, -, h⟩ := readResult_cases q s <;> rw [h]
  · exact ⟨_, answers_faultRespond .nodata 0 rfl rfl⟩
  · obtain ⟨c, hc⟩ := answers_respondConverted (conversionOf s).ov
      (resultValue q (consume q (storeConversion (conversionOf s) s))) (s := s)
      (u := consume q (storeConversion (conversionOf s) s)) (by simp) (by simp)
    exact ⟨_, hc⟩
  · exact ⟨_, answers_respond (.inl rfl) _ (by simp) (by simp)⟩

theorem respond_ok_answers_zero {s u : State} {P : Prop} (hr : u.rsps = s.rsps) (hf : u.fault = s.fault) :
    ∃ r, Answers s (respond .ok 0 u) r ∧ (r.data = 0 ∨ P) :=
  ⟨_, answers_respond (.inl rfl) 0 hr hf, .inl rfl⟩

theorem faultRespond_answers_zero (f : FaultBit) {s u : State} {P : Prop} (hr : u.rsps = s.rsps)
    (hf : u.fault = s.fault) : ∃ r, Answers s (faultRespond f 0 u) r ∧ (r.data = 0 ∨ P) :=
  ⟨_, answers_faultRespond f 0 hr hf, .inl rfl⟩

/-- Every path of every command answers once, and with data 0 unless it is `RD` or `CRC.CHECK` (R82). -/
theorem exec_answers (i : Instr) (s t : State) (h : exec i s = .next t) :
    ∃ r, Answers s t r ∧ (r.data = 0 ∨ (∃ n, i = .rd n) ∨ ∃ b, i = .crcCheck b) := by
  rcases exec_cases i s t h with
    ⟨-, rfl⟩ | ⟨n, rfl, -, rfl⟩ | ⟨g, rfl, -, rfl⟩ | ⟨q, rfl, rfl⟩ |
    ⟨-, rfl⟩ | ⟨_, -, -, rfl⟩ | ⟨_, -, -, rfl⟩ | ⟨b, rfl, -, rfl⟩ | ⟨b, rfl, -, -, rfl⟩ | ⟨b, rfl, -, -, rfl⟩ |
    ⟨_, -, rfl⟩ | ⟨-, rfl⟩ |
    ⟨-, -, rfl⟩ | ⟨-, -, rfl⟩ | ⟨_, -, -, rfl⟩ | ⟨_, -, -, rfl⟩ |
    ⟨-, rfl⟩ | ⟨_, -, -, rfl⟩ | ⟨_, -, -, rfl⟩ | ⟨-, -, rfl⟩ | ⟨-, -, rfl⟩ |
    ⟨-, -, rfl⟩ | ⟨-, -, -, rfl⟩
  · exact respond_ok_answers_zero rfl rfl
  · exact faultRespond_answers_zero .illegal rfl rfl
  · exact ⟨_, answers_respond (.inl rfl) _ rfl rfl, .inr (.inl ⟨_, rfl⟩)⟩
  · obtain ⟨r, hr⟩ := readResult_answers q s
    exact ⟨r, hr, .inr (.inl ⟨_, rfl⟩)⟩
  · exact respond_ok_answers_zero rfl rfl
  · exact respond_ok_answers_zero rfl rfl
  · exact faultRespond_answers_zero .badlen rfl rfl
  · exact ⟨_, answers_faultRespond .badlen _ rfl rfl, .inr (.inr ⟨b, rfl⟩)⟩
  · exact ⟨_, answers_respond (.inl rfl) _ rfl rfl, .inr (.inr ⟨b, rfl⟩)⟩
  · exact ⟨_, answers_respond (.inr rfl) _ rfl rfl, .inr (.inr ⟨b, rfl⟩)⟩
  · exact respond_ok_answers_zero rfl rfl
  · exact respond_ok_answers_zero rfl rfl
  · exact faultRespond_answers_zero .locked rfl rfl
  · exact respond_ok_answers_zero rfl rfl
  · exact faultRespond_answers_zero .locked rfl rfl
  · exact respond_ok_answers_zero rfl rfl
  · exact respond_ok_answers_zero rfl rfl
  · exact respond_ok_answers_zero rfl rfl
  · exact faultRespond_answers_zero .badlen rfl rfl
  · exact faultRespond_answers_zero .badlen rfl rfl
  · exact respond_ok_answers_zero rfl rfl
  · exact faultRespond_answers_zero .nodata rfl rfl
  · obtain ⟨c, hc⟩ := answers_respondConverted (s := s) (u := storeConversion (conversionOf s) s) _ 0 rfl rfl
    exact ⟨_, hc, .inl rfl⟩

/-- Settles O26: `exec_answers`, whose exceptions for the data are the two commands that the statement names. -/
theorem oneResponseAndItsFaultBit : Obligations.OneResponseAndItsFaultBit := by
  intro i s t h
  obtain ⟨r, ⟨hrsps, hkeep, hset⟩, hdata⟩ := exec_answers i s t h
  refine ⟨r, hrsps, hkeep, hset, fun hrd hcheck => ?_⟩
  obtain hzero | ⟨n, rfl⟩ | ⟨b, rfl⟩ := hdata
  · exact hzero
  · exact absurd rfl (hrd n)
  · exact absurd rfl (hcheck b)

end Sys2Proof.Machine
end

section
/-! SUPPORT. Runs of the listed commands of a sequence (R92): one part after the other, and a part that streams bytes. -/

namespace Sys2Proof.Machine

theorem run_present_exec {i : Instr} {s t : State} (is : List Instr) (n : Nat) (h : exec i s = .next t) :
    Host.Core.run Sys2Proof.core (n + 1) (present (i :: is) s) = Host.Core.run Sys2Proof.core n (present is t) :=
  run_present_cons is n (decodeOfEncodeIsTheInstruction i) h

/-- The commands of a list run before whatever is presented after them. -/
theorem run_present_append {is : List Instr} {m : Nat} (hm : is.length = m) (js : List Instr) (n : Nat) {s t : State}
    (h : Host.Core.run Sys2Proof.core m (present is s) = .next t) :
    Host.Core.run Sys2Proof.core (m + n) (present (is ++ js) s) = Host.Core.run Sys2Proof.core n (present js t) := by
  subst hm
  induction is generalizing s with
  | nil =>
    cases h
    rw [List.length_nil, Nat.zero_add]
    rfl
  | cons i is ih =>
    obtain ⟨u, hu⟩ := exec_next i s
    rw [List.length_cons, run_present_exec is _ hu] at h
    rw [List.length_cons, Nat.add_right_comm, List.cons_append, run_present_exec _ _ hu, ih h]

/-- A run of one command is that command, with nothing left to present. -/
theorem run_present_singleton {i : Instr} {s t : State} (h : exec i s = .next t) :
    Host.Core.run Sys2Proof.core 1 (present [i] s) = .next t :=
  run_present_exec [] 0 h

/-- Bytes streamed one command each: while `room k` says that `k` more are taken, the run is a fold of the state after one. -/
theorem run_stream {mk : Byte → Instr} {take : State → Byte → State} {room : Nat → State → Prop}
    (htake : ∀ k s b, room (k + 1) s → exec (mk b) s = .next (take s b) ∧ room k (take s b)) (bs : List Byte) (s : State)
    (h : room bs.length s) :
    Host.Core.run Sys2Proof.core bs.length (present (bs.map mk) s) = .next (bs.foldl take s) := by
  induction bs generalizing s with
  | nil => rfl
  | cons b bs ih =>
    obtain ⟨hexec, hroom⟩ := htake _ s b h
    rw [List.length_cons, List.map_cons, run_present_exec _ _ hexec]
    exact ih _ hroom

/-- The bytes of `bs` stored from index `i` on (R76). -/
def fill {n : Nat} (a : Vector Byte n) (i : Nat) : List Byte → Vector Byte n
  | [] => a
  | b :: bs => fill (putByte a i b) (i + 1) bs

theorem getElem_fill {n : Nat} (a : Vector Byte n) (i : Nat) (bs : List Byte) (k : Nat) (hk : k < n) :
    (fill a i bs)[k] = if k < i then a[k] else bs.getD (k - i) a[k] := by
  induction bs generalizing a i with
  | nil => simp [fill]
  | cons b bs ih =>
    rw [fill, ih, getElem_putByte]
    rcases lt_trichotomy k i with hlt | rfl | hgt
    · rw [if_pos (by omega), if_neg (by omega), if_pos hlt]
    · simp
    · obtain ⟨j, rfl⟩ : ∃ j, k = i + 1 + j := Nat.exists_eq_add_of_le hgt
      have hj : i + 1 + j - i = j + 1 := by omega
      rw [if_neg (by omega), if_neg (by omega), if_neg (by omega), hj]
      simp

/-- Stored from the first index on, the bytes of a whole array replace it. -/
theorem fill_zero_toList {n : Nat} (a b : Vector Byte n) : fill a 0 b.toList = b := by
  ext k hk
  simp [getElem_fill, hk]

end Sys2Proof.Machine
end

section
/-! SUPPORT. The calibration block (R140, R141) and the statement CalibrationBlockLoadsOnceAndLocks. -/

namespace Sys2Proof.Machine

/-- The state after a `CAL.INIT` that is not refused (R140). -/
def restartCal (s : State) : State := respond .ok 0 { s with calptr := 0 }

/-- The state after a `CAL.BYTE` that is stored (R141). -/
def storeCalByte (s : State) (b : Byte) : State :=
  respond .ok 0 { s with cal := putByte s.cal s.calptr b, calptr := s.calptr + 1 }

theorem exec_calByte_of_lt (b : Byte) {s : State} (h : s.calptr.val < 26) :
    exec (.calByte b) s = .next (storeCalByte s b) :=
  if_neg (mt (calValid_iff s).1 h.ne)

theorem calptr_storeCalByte {s : State} (h : s.calptr.val < 26) (b : Byte) :
    (storeCalByte s b).calptr.val = s.calptr.val + 1 := by
  simp only [storeCalByte, respond_calptr]
  omega

theorem foldl_storeCalByte (bs : List Byte) (s : State) (h : s.calptr.val + bs.length ≤ 26) :
    bs.foldl storeCalByte s = { s with
      cal := fill s.cal s.calptr bs, calptr := ⟨s.calptr.val + bs.length, by omega⟩,
      rsps := s.rsps ++ List.replicate bs.length ⟨.ok, 0⟩ } := by
  induction bs generalizing s with
  | nil => simp [fill]
  | cons b bs ih =>
    rw [List.length_cons] at h
    have hb := calptr_storeCalByte (s := s) (by omega) b
    rw [List.foldl_cons, ih _ (by omega)]
    simp only [hb, fill, List.length_cons, Nat.add_assoc, Nat.add_comm 1]
    simp [storeCalByte, respond, List.replicate_succ]

/-- Bytes for which there is room are stored from `CALPTR` on (R141). -/
theorem run_calBytes (bs : List Byte) (s : State) (h : s.calptr.val + bs.length ≤ 26) :
    Host.Core.run Sys2Proof.core bs.length (present (bs.map .calByte) s) = .next { s with
      cal := fill s.cal s.calptr bs, calptr := ⟨s.calptr.val + bs.length, by omega⟩,
      rsps := s.rsps ++ List.replicate bs.length ⟨.ok, 0⟩ } := by
  refine (run_stream (room := fun k s => s.calptr.val + k ≤ 26) (fun k s b hk => ?_) bs s h).trans
    (congrArg _ (foldl_storeCalByte bs s h))
  have hlt : s.calptr.val < 26 := by omega
  exact ⟨exec_calByte_of_lt b hlt, by rw [calptr_storeCalByte hlt]; omega⟩

/-- The state after a command that finds the calibration store locked (R32). -/
def refuseLocked (s : State) : State := faultRespond .locked 0 s

theorem exec_calByte_of_locked (b : Byte) {s : State} (h : s.calptr.val = 26) :
    exec (.calByte b) s = .next (refuseLocked s) :=
  if_pos ((calValid_iff s).2 h)

theorem foldl_refuseLocked (bs : List Byte) (s : State) :
    bs.foldl (fun u _ => refuseLocked u) (refuseLocked s) =
      { s with fault := s.fault ||| 4, rsps := s.rsps ++ List.replicate (bs.length + 1) ⟨.locked, 0⟩ } := by
  induction bs generalizing s with
  | nil => rfl
  | cons b bs ih =>
    have hfault : (refuseLocked s).fault = s.fault ||| 4 := rfl
    have hrsps : (refuseLocked s).rsps = s.rsps ++ [⟨.locked, 0⟩] := rfl
    rw [List.foldl_cons, ih, hfault, hrsps, BitVec.or_assoc, BitVec.or_self, List.append_assoc]
    rfl

/-- Settles O45: from an unlocked store the 26 bytes are stored from index 0 on; a locked one refuses each command. -/
theorem calibrationBlockLoadsOnceAndLocks : Obligations.CalibrationBlockLoadsOnceAndLocks := by
  intro s b
  have hlen : b.toList.length = 26 := b.length_toList
  constructor <;> intro hp
  · have hinit : exec .calInit s = .next (restartCal s) := if_neg (mt (calValid_iff s).1 hp)
    have hrun := run_calBytes b.toList (restartCal s) (by simp [restartCal])
    simp only [hlen] at hrun
    refine (run_present_exec _ 26 hinit).trans (hrun.trans ?_)
    simp [restartCal, respond, fill_zero_toList, List.replicate_succ]
  · have hinit : exec .calInit s = .next (refuseLocked s) := if_pos ((calValid_iff s).2 hp)
    have hrun := run_stream (room := fun _ u => u.calptr.val = 26)
      (fun _ _ b hu => ⟨exec_calByte_of_locked b hu, hu⟩) b.toList (refuseLocked s) hp
    have hfold := foldl_refuseLocked b.toList s
    rw [hlen] at hrun hfold
    exact (run_present_exec _ 26 hinit).trans (hrun.trans (congrArg _ hfold))

end Sys2Proof.Machine
end

section
/-! SUPPORT. The pressure frame (R145 to R147) and the statement PressureFrameIsReplacedWhole. -/

namespace Sys2Proof.Machine

/-- The state after `P.INIT` (R145). -/
def restartPressure (s : State) : State := respond .ok 0 { s with pcnt := 0 }

/-- The state after a `P.BYTE` that is stored (R146). -/
def storePByte (s : State) (b : Byte) : State :=
  respond .ok 0 { s with pstg := putByte s.pstg s.pcnt b, pcnt := s.pcnt + 1 }

theorem exec_pByte_of_lt (b : Byte) {s : State} (h : s.pcnt.val < 6) :
    exec (.pByte b) s = .next (storePByte s b) :=
  if_pos h

theorem pcnt_storePByte {s : State} (h : s.pcnt.val < 6) (b : Byte) :
    (storePByte s b).pcnt.val = s.pcnt.val + 1 := by
  simp only [storePByte, respond_pcnt]
  omega

theorem foldl_storePByte (bs : List Byte) (s : State) (h : s.pcnt.val + bs.length ≤ 6) :
    bs.foldl storePByte s = { s with
      pstg := fill s.pstg s.pcnt bs, pcnt := ⟨s.pcnt.val + bs.length, by omega⟩,
      rsps := s.rsps ++ List.replicate bs.length ⟨.ok, 0⟩ } := by
  induction bs generalizing s with
  | nil => simp [fill]
  | cons b bs ih =>
    rw [List.length_cons] at h
    have hb := pcnt_storePByte (s := s) (by omega) b
    rw [List.foldl_cons, ih _ (by omega)]
    simp only [hb, fill, List.length_cons, Nat.add_assoc, Nat.add_comm 1]
    simp [storePByte, respond, List.replicate_succ]

/-- Bytes for which there is room are staged from `PCNT` on (R146). -/
theorem run_pBytes (bs : List Byte) (s : State) (h : s.pcnt.val + bs.length ≤ 6) :
    Host.Core.run Sys2Proof.core bs.length (present (bs.map .pByte) s) = .next { s with
      pstg := fill s.pstg s.pcnt bs, pcnt := ⟨s.pcnt.val + bs.length, by omega⟩,
      rsps := s.rsps ++ List.replicate bs.length ⟨.ok, 0⟩ } := by
  refine (run_stream (room := fun k s => s.pcnt.val + k ≤ 6) (fun k s b hk => ?_) bs s h).trans
    (congrArg _ (foldl_storePByte bs s h))
  have hlt : s.pcnt.val < 6 := by omega
  exact ⟨exec_pByte_of_lt b hlt, by rw [pcnt_storePByte hlt]; omega⟩

theorem exec_pCommit_of_full {s : State} (h : s.pcnt.val = 6) : exec .pCommit s = .next (respond .ok 0
    { s with pfrm := s.pstg, pfrmValid := true, convNeeded := true, pHasData := true, pcnt := 0 }) :=
  if_neg (not_not.2 h)

/-- Settles O46: the six bytes are staged from index 0 on, and `P.COMMIT` finds them all. -/
theorem pressureFrameIsReplacedWhole : Obligations.PressureFrameIsReplacedWhole := by
  intro s b
  have hlen : (b.toList.map Instr.pByte).length = 6 := by simp
  have hrun := run_pBytes b.toList (restartPressure s) (by simp [restartPressure])
  simp only [Vector.length_toList] at hrun
  refine (run_present_exec _ 7 rfl).trans ((run_present_append hlen [.pCommit] 1 hrun).trans ?_)
  refine (run_present_singleton (exec_pCommit_of_full rfl)).trans ?_
  simp [restartPressure, respond, fill_zero_toList, List.replicate_succ]

end Sys2Proof.Machine
end

section
/-! SUPPORT. The humidity frame (R102 to R104) and the statement HumidityFrameIsPublishedWholeOrNotAtAll. -/

namespace Sys2Proof.Machine

theorem toNat_crcInfo (computed received : Byte) :
    (crcInfo computed received).toNat = computed.toNat * 256 + received.toNat := by
  rw [crcInfo, BitVec.toNat_cast, toNat_append_byte, toNat_append_byte, BitVec.toNat_zero, Nat.zero_mul, Nat.zero_add]

theorem wholeFrame_eq (d : Vector Byte 6) (c : Byte) : wholeFrame d c = #v[d[0], d[1], d[2], d[3], d[4], d[5], c] := by
  have hd : d = #v[d[0], d[1], d[2], d[3], d[4], d[5]] := by
    ext k hk
    match k, hk with
    | 0, _ | 1, _ | 2, _ | 3, _ | 4, _ | 5, _ => rfl
  conv_lhs => rw [hd]
  rfl

/-- Six bytes streamed after a restart fill `STG`, and `CRC` is theirs (R23 to R25). -/
theorem foldl_acceptCrcByte_restartCrc (d : Vector Byte 6) (s : State) :
    d.toList.foldl acceptCrcByte (restartCrc s) = { s with
      crc := crc8 d.toList, cnt := 6, stg := d, rsps := s.rsps ++ List.replicate 7 ⟨.ok, 0⟩ } := by
  have hroom : (restartCrc s).cnt.val + d.toList.length ≤ 6 := by simp [restartCrc]
  have hcrc : (d.toList.foldl acceptCrcByte (restartCrc s)).crc = crc8 d.toList := crc_foldl_acceptCrcByte d.toList _
  have hcnt : (d.toList.foldl acceptCrcByte (restartCrc s)).cnt = 6 := by
    apply Fin.ext
    rw [cnt_foldl_acceptCrcByte _ _ hroom]
    simp [restartCrc]
  have hstg : (d.toList.foldl acceptCrcByte (restartCrc s)).stg = d := by
    ext k hk
    rw [stg_foldl_acceptCrcByte _ _ hroom k hk]
    simp [restartCrc, hk]
  rw [frame_foldl_acceptCrcByte, hcrc, hcnt, hstg]
  simp [restartCrc, respond, initCrcUnit, List.replicate_succ]

/-- `CRC.CHECK` with six bytes received, both outcomes in one (R104). -/
theorem exec_crcCheck_of_full (c : Byte) {s : State} (hn : s.cnt.val = 6) :
    exec (.crcCheck c) s = .next (respond (if s.crc = c then .ok else .mismatch) (crcInfo s.crc c) { initCrcUnit s with
      frm := if s.crc = c then wholeFrame s.stg c else s.frm, retry := decide (s.crc ≠ c) }) := by
  by_cases hc : s.crc = c
  · simp [exec_crcCheck_of_match hn hc, hc]
  · simp [exec_crcCheck_of_mismatch hn hc, hc]

/-- Settles O44: `CRC.CHECK` finds the six bytes and their `crc8`, and its response data is theirs and the received byte. -/
theorem humidityFrameIsPublishedWholeOrNotAtAll : Obligations.HumidityFrameIsPublishedWholeOrNotAtAll := by
  intro s d c info hinfo
  have hlen : (d.toList.map Instr.crcByte).length = 6 := by simp
  have hrun := run_crcBytes d.toList (restartCrc s) (by simp [restartCrc])
  have hfold := foldl_acceptCrcByte_restartCrc d s
  obtain rfl : info = crcInfo (crc8 d.toList) c := BitVec.eq_of_toNat_eq (hinfo.trans (toNat_crcInfo _ c).symm)
  rw [Vector.length_toList] at hrun
  refine (run_present_exec _ 7 (exec_crcInit s)).trans ((run_present_append hlen [.crcCheck c] 1
    (hrun.trans (congrArg _ hfold))).trans ?_)
  refine (run_present_singleton (exec_crcCheck_of_full c rfl)).trans ?_
  rw [wholeFrame_eq]
  rfl

end Sys2Proof.Machine
end

section
/-! SUPPORT. The words of format B written as opcode OR operand, `CRC.INIT` and `CRC.BYTE` (R102, R103) and the statements
CrcInitRestartsTheFrame and CrcByteStoresOrOverruns. -/

namespace Sys2Proof

/-- The two fields of a word do not overlap, so it is their OR (R80). -/
theorem wordOf_zero_or_setWidth (op arg : Byte) : wordOf op 0 ||| arg.setWidth 16 = wordOf op arg := by
  have harg : arg.setWidth 16 = wordOf 0 arg := eq_wordOf_of_toNat (by simp; omega)
  rw [harg]
  simp only [wordOf, BitVec.or_cast, BitVec.or_append]
  simp

end Sys2Proof

namespace Sys2Proof.Machine

/-- Storing a streamed byte, written out as a whole vector (R76). -/
theorem putByte_eq_ofFn {n : Nat} (a : Vector Byte n) (i : Nat) (b : Byte) :
    putByte a i b = Vector.ofFn fun k => if k.val = i then b else a[k] := by
  ext k hk
  rw [getElem_putByte, Vector.getElem_ofFn]
  simp only [eq_comm, Fin.getElem_fin]

theorem decode_crcByte_word (b : Byte) : decode (0x1100 ||| b.setWidth 16) = .ok (.crcByte b) :=
  (congrArg decode (wordOf_zero_or_setWidth 0x11 b)).trans (decodeOfEncodeIsTheInstruction (.crcByte b))

theorem decode_crcCheck_word (b : Byte) : decode (0x1200 ||| b.setWidth 16) = .ok (.crcCheck b) :=
  (congrArg decode (wordOf_zero_or_setWidth 0x12 b)).trans (decodeOfEncodeIsTheInstruction (.crcCheck b))

theorem exec_crcByte_of_overrun (b : Byte) {s : State} (h : 6 ≤ s.cnt.val) :
    exec (.crcByte b) s = .next (faultRespond .badlen 0 { s with cnt := 7 }) :=
  if_neg (Nat.not_lt.2 h)

/-- Settles O12: the state after the command is `restartCrc`. -/
theorem crcInitRestartsTheFrame : Obligations.CrcInitRestartsTheFrame :=
  ⟨decode_encode_crcInit, exec_crcInit⟩

/-- Settles O13: up to six bytes the command is `acceptCrcByte`, and from the seventh on it faults. -/
theorem crcByteStoresOrOverruns : Obligations.CrcByteStoresOrOverruns := by
  refine fun b => ⟨decode_crcByte_word b, fun s => ⟨fun hroom => ?_, fun hfull => exec_crcByte_of_overrun b hfull⟩⟩
  refine ⟨(acceptCrcByte s b).cnt, cnt_acceptCrcByte hroom b, (exec_crcByte_of_lt b hroom).trans ?_⟩
  rw [← putByte_eq_ofFn]
  rfl

end Sys2Proof.Machine
end

section
/-! SUPPORT. The algebra of the CRC function (R100, R101, R105, R106), the outcomes of `CRC.CHECK` (R104), and the statements
CrcFoldsFromTheInitialValue, CrcLaws, CrcTableAndShiftRegisterAgree and CrcCheckCommitsOrDiscards. -/

namespace Sys2Proof.Machine

/-- Settles O40: a fold over one byte more is one step more. -/
theorem crcFoldsFromTheInitialValue : Obligations.CrcFoldsFromTheInitialValue :=
  ⟨rfl, fun _ _ => List.foldl_concat ..⟩

/-- What is XORed into the register when `p` is shifted out of it (R100). -/
def feedback (p : Bool) : Byte := if p then crcPoly else 0

theorem feedback_xor (p q : Bool) : feedback (p ^^ q) = feedback p ^^^ feedback q := by
  cases p <;> cases q <;> rfl

theorem crcShift_eq_xor (x : Byte) : crcShift x = (x <<< 1) ^^^ feedback x.msb := by
  unfold crcShift feedback
  split <;> simp

theorem crcShift_xor (x y : Byte) : crcShift (x ^^^ y) = crcShift x ^^^ crcShift y := by
  simp only [crcShift_eq_xor, BitVec.msb_xor, feedback_xor, BitVec.shiftLeft_xor_distrib]
  ac_rfl

/-- The polynomial is odd, so the bit shifted out at the top comes back at the bottom. -/
theorem crcShift_lsb (x : Byte) : (crcShift x).getLsbD 0 = x.msb := by
  unfold crcShift
  cases x.msb <;> simp [crcPoly]

theorem crcShift_injective : Function.Injective crcShift := by
  intro x y h
  have hmsb : x.msb = y.msb := by rw [← crcShift_lsb x, h, crcShift_lsb]
  have hshl : x <<< 1 = y <<< 1 := by simpa only [crcShift_eq_xor, hmsb, BitVec.xor_left_inj] using h
  simp only [BitVec.msb_eq_decide, decide_eq_decide] at hmsb
  bv_omega

theorem crcShifts_eq_iterate (k : Nat) (x : Byte) : crcShifts k x = crcShift^[k] x := by
  induction k generalizing x with
  | zero => rfl
  | succ k ih => exact ih (crcShift x)

theorem crcShifts_succ_eq (k : Nat) (x : Byte) : crcShifts (k + 1) x = crcShift (crcShifts k x) := by
  simp only [crcShifts_eq_iterate, Function.iterate_succ_apply']

theorem crcShifts_xor (k : Nat) (x y : Byte) : crcShifts k (x ^^^ y) = crcShifts k x ^^^ crcShifts k y := by
  simp only [crcShifts_eq_iterate]
  exact Function.Semiconj₂.iterate crcShift_xor k x y

theorem crcShifts_injective (k : Nat) : Function.Injective (crcShifts k) := by
  rw [funext (crcShifts_eq_iterate k)]
  exact crcShift_injective.iterate k

theorem crcStep_xor (c1 c2 b1 b2 : Byte) : crcStep (c1 ^^^ c2) (b1 ^^^ b2) = crcStep c1 b1 ^^^ crcStep c2 b2 := by
  simp only [crcStep, ← crcShifts_xor]
  congr 1
  ac_rfl

theorem crcStep_self (c : Byte) : crcStep c c = 0 := by
  rw [crcStep, BitVec.xor_self]
  rfl

theorem crcStep_congr {c b c' b' : Byte} (h : c ^^^ b = c' ^^^ b') : crcStep c b = crcStep c' b' :=
  congrArg (crcShifts 8) h

theorem crcStep_left_injective (b : Byte) : Function.Injective (crcStep · b) := fun _ _ h =>
  (BitVec.xor_left_inj b).1 (crcShifts_injective 8 h)

theorem crcStep_right_injective (c : Byte) : Function.Injective (crcStep c) := fun _ _ h =>
  (BitVec.xor_right_inj c).1 (crcShifts_injective 8 h)

/-- The bytes that follow never cancel a difference that has reached the CRC register. -/
theorem foldl_crcStep_injective (bs : List Byte) : Function.Injective (bs.foldl crcStep) := by
  induction bs with
  | nil => exact Function.injective_id
  | cons b bs ih => exact ih.comp (crcStep_left_injective b)

/-- Any change of one byte, and so a flip of one of its bits, is detected. -/
theorem crc8_eq_iff_of_one_byte (before after : List Byte) (b b' : Byte) :
    crc8 (before ++ b' :: after) = crc8 (before ++ b :: after) ↔ b' = b := by
  simp only [crc8, List.foldl_append, List.foldl_cons]
  rw [(foldl_crcStep_injective after).eq_iff, (crcStep_right_injective _).eq_iff]

theorem xor_one_shiftLeft_ne (b : Byte) (k : Fin 8) : b ^^^ (1#8 <<< k.val) ≠ b := by
  have hone : ∀ k : Fin 8, 1#8 <<< k.val ≠ 0#8 := by decide
  exact fun h => hone k (by simpa using congrArg (b ^^^ ·) h)

/-- Settles O41: the steps and the shifts are injective and linear, and a step sees its operands through their XOR. -/
theorem crcLaws : Obligations.CrcLaws :=
  ⟨fun before after b k => (crc8_eq_iff_of_one_byte before after b _).not.2 (xor_one_shiftLeft_ne b k),
    crcStep_xor, fun m => crcStep_self (crc8 m), fun _ _ _ _ => crcStep_congr⟩

/-- One clock of the bit-serial register at bit `7 - k` of `b` (R106). -/
def lfsrClock (b x : Byte) (k : Nat) : Byte :=
  if x.msb != b.getLsbD (7 - k) then (x <<< 1) ^^^ 0x31 else x <<< 1

theorem lfsrClock_eq_xor (b x : Byte) (k : Nat) :
    lfsrClock b x k = (x <<< 1) ^^^ feedback (x.msb ^^ b.getLsbD (7 - k)) := by
  unfold lfsrClock feedback
  cases x.msb <;> cases b.getLsbD (7 - k) <;> simp [crcPoly]

/-- The bit-serial register takes a bit of `b` as it needs it, where the shifted form has all of `b` in the register from the
start: the two differ by what is left of `b`. -/
theorem lfsrClock_xor_shiftLeft (b x : Byte) {k : Nat} (hk : k < 8) :
    lfsrClock b x k ^^^ (b <<< (k + 1)) = crcShift (x ^^^ (b <<< k)) := by
  have hbit : (b <<< k).msb = b.getLsbD (7 - k) := by simp [BitVec.msb_shiftLeft, BitVec.getMsbD, hk]
  rw [lfsrClock_eq_xor, crcShift_eq_xor, BitVec.msb_xor, hbit, BitVec.shiftLeft_xor_distrib, ← BitVec.shiftLeft_add]
  ac_rfl

theorem foldl_lfsrClock (b c : Byte) (k : Nat) (hk : k ≤ 8) :
    (List.range k).foldl (lfsrClock b) c ^^^ (b <<< k) = crcShifts k (c ^^^ b) := by
  induction k with
  | zero => simp [crcShifts]
  | succ k ih =>
    rw [List.range_succ, List.foldl_concat, lfsrClock_xor_shiftLeft b _ hk, ih (by omega), crcShifts_succ_eq]

/-- Settles O42: the table by dependence on the XOR, the bit-serial form after eight clocks, when nothing is left of `b`. -/
theorem crcTableAndShiftRegisterAgree : Obligations.CrcTableAndShiftRegisterAgree := by
  refine ⟨fun c b => crcStep_congr BitVec.xor_zero.symm, fun c b => ?_, by decide⟩
  have hnone : b <<< 8 = 0#8 := BitVec.shiftLeft_eq_zero (Nat.le_refl 8)
  have hserial := foldl_lfsrClock b c 8 (Nat.le_refl 8)
  rw [hnone, BitVec.xor_zero] at hserial
  exact hserial.symm

theorem crcInfo_eq_of_toNat {computed received : Byte} {info : Data}
    (h : info.toNat = computed.toNat * 256 + received.toNat) : crcInfo computed received = info :=
  BitVec.eq_of_toNat_eq ((toNat_crcInfo computed received).trans h.symm)

/-- A bus stuck at 0 or at 1 gives a frame that fails the check (R104). -/
theorem crc8_stuck_bus :
    crc8 [0, 0, 0, 0, 0, 0] = 0x6A ∧ crc8 [0xFF, 0xFF, 0xFF, 0xFF, 0xFF, 0xFF] = 0x22 := by decide +kernel

/-- Settles O14: each outcome of `CRC.CHECK` is a record update, with the given data as its `crcInfo`. -/
theorem crcCheckCommitsOrDiscards : Obligations.CrcCheckCommitsOrDiscards := by
  refine ⟨fun b => ⟨decode_crcCheck_word b, fun s info hinfo => ?_⟩, crc8_stuck_bus⟩
  obtain rfl := crcInfo_eq_of_toNat hinfo
  refine ⟨fun hn => exec_crcCheck_of_badlen b hn, fun hn hb => ?_, fun hn hb => exec_crcCheck_of_mismatch hn hb⟩
  rw [exec_crcCheck_of_match hn hb, wholeFrame_eq]
  rfl

end Sys2Proof.Machine
end

section
/-! SUPPORT. The commands of the humidity frame (R120, R121) and the statements HStatusWritesByteZero and
HClearZeroesTheFrame. -/

namespace Sys2Proof.Machine

/-- A byte stored at index 0 of the humidity frame, written out as a whole frame (R26, R76). -/
theorem putByte_zero_eq (frm : Vector Byte 7) (b : Byte) :
    putByte frm 0 b = #v[b, frm[1], frm[2], frm[3], frm[4], frm[5], frm[6]] := by
  ext k hk
  rw [getElem_putByte]
  match k, hk with
  | 0, _ | 1, _ | 2, _ | 3, _ | 4, _ | 5, _ | 6, _ => rfl

theorem exec_hStatus (b : Byte) (s : State) :
    exec (.hStatus b) s = .next (respond .ok 0 { s with frm := putByte s.frm 0 b }) := rfl

theorem exec_hClear (s : State) :
    exec .hClear s = .next (respond .ok 0 { initCrcUnit s with frm := Vector.replicate 7 0, retry := false }) := rfl

theorem decode_hStatus_word (b : Byte) : decode (0x2000 ||| b.setWidth 16) = .ok (.hStatus b) :=
  (congrArg decode (wordOf_zero_or_setWidth 0x20 b)).trans (decodeOfEncodeIsTheInstruction (.hStatus b))

/-- Settles O15: the byte is stored at index 0 of the frame. -/
theorem hStatusWritesByteZero : Obligations.HStatusWritesByteZero := by
  refine fun b => ⟨decode_hStatus_word b, fun s => ?_⟩
  rw [exec_hStatus, putByte_zero_eq]
  rfl

/-- Settles O16: the CRC unit's initial state is 0xFF and count 0, and the frame is seven zero bytes. -/
theorem hClearZeroesTheFrame : Obligations.HClearZeroesTheFrame :=
  ⟨decodeOfEncodeIsTheInstruction .hClear, exec_hClear⟩

end Sys2Proof.Machine
end

section
/-! SUPPORT. The two 20-bit fields of the humidity frame (R124) and the statement HumidityFieldsArePackedMsbFirst. -/

namespace Sys2Proof.Machine

theorem toNat_highNibble (b : Byte) : (b.extractLsb' 4 4).toNat = b.toNat / 16 := by
  rw [BitVec.extractLsb'_toNat, Nat.shiftRight_eq_div_pow]
  omega

theorem toNat_append_highNibble {w : Nat} (x : BitVec w) (b : Byte) :
    (x ++ b.extractLsb' 4 4).toNat = x.toNat * 16 + b.toNat / 16 := by
  rw [BitVec.toNat_append, ← Nat.shiftLeft_add_eq_or_of_lt (BitVec.isLt _), Nat.shiftLeft_eq, toNat_highNibble]

theorem toNat_lowNibble (b : Byte) : (b.extractLsb' 0 4).toNat = b.toNat % 16 := by
  rw [BitVec.extractLsb'_toNat, Nat.shiftRight_zero]

/-- A 20-bit field that ends in a high nibble, as R124 and R149 pack it. -/
theorem toNat_byte_byte_highNibble (a b c : Byte) :
    (a ++ b ++ c.extractLsb' 4 4).toNat = a.toNat * 4096 + b.toNat * 16 + c.toNat / 16 := by
  rw [toNat_append_highNibble, toNat_append_byte]
  omega

/-- A 20-bit field that begins with a low nibble, as R124 packs it. -/
theorem toNat_lowNibble_byte_byte (a b c : Byte) :
    (a.extractLsb' 0 4 ++ b ++ c).toNat = a.toNat % 16 * 65536 + b.toNat * 256 + c.toNat := by
  rw [toNat_append_byte, toNat_append_byte, toNat_lowNibble]
  omega

theorem toNat_hraw (f : Vector Byte 7) :
    (hraw f).toNat = f[1].toNat * 4096 + f[2].toNat * 16 + f[3].toNat / 16 :=
  toNat_byte_byte_highNibble f[1] f[2] f[3]

theorem toNat_traw (f : Vector Byte 7) :
    (traw f).toNat = f[3].toNat % 16 * 65536 + f[4].toNat * 256 + f[5].toNat :=
  toNat_lowNibble_byte_byte f[3] f[4] f[5]

theorem hraw_congr {f g : Vector Byte 7} (h1 : g[1] = f[1]) (h2 : g[2] = f[2]) (h3 : g[3] = f[3]) : hraw g = hraw f :=
  BitVec.eq_of_toNat_eq (by rw [toNat_hraw, toNat_hraw, h1, h2, h3])

theorem traw_congr {f g : Vector Byte 7} (h3 : g[3] = f[3]) (h4 : g[4] = f[4]) (h5 : g[5] = f[5]) : traw g = traw f :=
  BitVec.eq_of_toNat_eq (by rw [toNat_traw, toNat_traw, h3, h4, h5])

/-- Settles O50: the sums are `toNat_hraw` and `toNat_traw`, the bounds those of 20 bits, and the sums name bytes 1 to 5
alone. -/
theorem humidityFieldsArePackedMsbFirst : Obligations.HumidityFieldsArePackedMsbFirst := by
  refine ⟨fun f => ⟨toNat_hraw f, toNat_traw f, Nat.le_pred_of_lt (hraw f).isLt, Nat.le_pred_of_lt (traw f).isLt⟩,
    fun f g h => ?_⟩
  have h3 : g[3] = f[3] := h 3 (by decide) (by decide)
  exact ⟨hraw_congr (h 1 (by decide) (by decide)) (h 2 (by decide) (by decide)) h3,
    traw_congr h3 (h 4 (by decide) (by decide)) (h 5 (by decide) (by decide))⟩

end Sys2Proof.Machine
end

section
/-! SUPPORT. The linear scaler (R127 to R129) and the statement LinearScalerIsExact. -/

namespace Sys2Proof.Machine

theorem toInt_trunc32_of_fits {v : Int} (hlo : -2 ^ 31 ≤ v) (hhi : v < 2 ^ 31) : (trunc 32 v).toInt = v :=
  BitVec.toInt_ofInt_eq_self (by decide) hlo hhi

/-- The product of R127 fits in its 32 bits. -/
theorem toNat_trunc_hum (f : Vector Byte 7) : (trunc 32 (hum f)).toNat = (hraw f).toNat * 100 := by
  have hmod := toNat_trunc 32 (hum f)
  have hraw_lt := (hraw f).isLt
  rw [hum] at hmod ⊢
  omega

/-- The difference of R128 fits in 32 bits as a signed number. -/
theorem toInt_trunc_tempC (f : Vector Byte 7) : (trunc 32 (tempC f)).toInt = (traw f).toNat * 200 - 52428800 := by
  have traw_lt := (traw f).isLt
  rw [tempC]
  exact toInt_trunc32_of_fits (by omega) (by omega)

/-- The difference of R129 fits in 32 bits as a signed number. -/
theorem toInt_trunc_tempF (f : Vector Byte 7) : (trunc 32 (tempF f)).toInt = (traw f).toNat * 360 - 60817408 := by
  have traw_lt := (traw f).isLt
  rw [tempF]
  exact toInt_trunc32_of_fits (by omega) (by omega)

/-- Settles O51: the three reads give the values of the linear scaler, none of which wraps; the ranges are those of the 20-bit
fields, and the rationals follow from the exact values. -/
theorem linearScalerIsExact : Obligations.LinearScalerIsExact := by
  rintro s h c rfl rfl
  have hraw_lt := (hraw s.frm).isLt
  have traw_lt := (traw s.frm).isLt
  have hhum := toNat_trunc_hum s.frm
  have htempC := toInt_trunc_tempC s.frm
  have htempF := toInt_trunc_tempF s.frm
  refine ⟨_, _, _, exec_rd_plain .hum nofun s, exec_rd_plain .tempc nofun s, exec_rd_plain .tempf nofun s, ?_⟩
  simp only [regRead, hhum, htempC, htempF]
  refine ⟨trivial, by omega, by omega, ?_, trivial, by omega, by omega, ?_, by omega, by omega, trivial, by omega,
    by omega, ?_⟩
  all_goals push_cast; ring

end Sys2Proof.Machine
end

section
/-! SUPPORT. The commands of the calibration store (R140, R141) and the statements CalInitRestartsUntilLocked and
CalByteStoresUntilLocked. -/

namespace Sys2Proof

/-- The word of a command with an operand, written as opcode OR operand (R80), decodes to the command. -/
theorem decode_or_operand {i : Instr} {op arg : Byte} (h : encode i = wordOf op arg) :
    decode (wordOf op 0 ||| arg.setWidth 16) = .ok i := by
  rw [wordOf_zero_or_setWidth, ← h]
  exact decodeOfEncodeIsTheInstruction i

end Sys2Proof

namespace Sys2Proof.Machine

theorem exec_calInit_of_locked {s : State} (h : s.calptr.val = 26) : exec .calInit s = .next (refuseLocked s) :=
  if_pos ((calValid_iff s).2 h)

theorem exec_calInit_of_unlocked {s : State} (h : s.calptr.val ≠ 26) : exec .calInit s = .next (restartCal s) :=
  if_neg (mt (calValid_iff s).1 h)

/-- Settles O17: a locked store refuses the command, an unlocked one restarts its pointer. -/
theorem calInitRestartsUntilLocked : Obligations.CalInitRestartsUntilLocked :=
  ⟨decodeOfEncodeIsTheInstruction .calInit, fun _ => ⟨exec_calInit_of_locked, exec_calInit_of_unlocked⟩⟩

/-- Settles O18: a locked store refuses the byte; an unlocked one has a pointer below 26, where the byte is stored. -/
theorem calByteStoresUntilLocked : Obligations.CalByteStoresUntilLocked := by
  refine fun b => ⟨decode_or_operand (i := .calByte b) (op := 0x31) rfl, fun s =>
    ⟨exec_calByte_of_locked b, fun hopen => ?_⟩⟩
  have hroom : s.calptr.val < 26 := by omega
  refine ⟨(storeCalByte s b).calptr, calptr_storeCalByte hroom b, (exec_calByte_of_lt b hroom).trans ?_⟩
  rw [← putByte_eq_ofFn]
  rfl

end Sys2Proof.Machine
end

section
/-! SUPPORT. The commands of the pressure raw read (R145 to R147) and the statements PInitRestartsTheRead,
PByteStoresOrOverruns and PCommitReplacesTheFrame. -/

namespace Sys2Proof.Machine

theorem exec_pInit (s : State) : exec .pInit s = .next (restartPressure s) := rfl

theorem exec_pByte_of_overrun (b : Byte) {s : State} (h : 6 ≤ s.pcnt.val) :
    exec (.pByte b) s = .next (faultRespond .badlen 0 { s with pcnt := 7 }) :=
  if_neg (Nat.not_lt.2 h)

theorem exec_pCommit_of_badlen {s : State} (h : s.pcnt.val ≠ 6) :
    exec .pCommit s = .next (faultRespond .badlen 0 { s with pcnt := 0 }) :=
  if_pos h

/-- A frame of six bytes, written out (R33, R34). -/
theorem sixBytes_eq (v : Vector Byte 6) : #v[v[0], v[1], v[2], v[3], v[4], v[5]] = v := by
  ext k hk
  match k, hk with
  | 0, _ | 1, _ | 2, _ | 3, _ | 4, _ | 5, _ => rfl

/-- Settles O19: the state after the command is `restartPressure`. -/
theorem pInitRestartsTheRead : Obligations.PInitRestartsTheRead :=
  ⟨decodeOfEncodeIsTheInstruction .pInit, exec_pInit⟩

/-- Settles O20: up to six bytes the command is `storePByte`, and from the seventh on it faults. -/
theorem pByteStoresOrOverruns : Obligations.PByteStoresOrOverruns := by
  refine fun b => ⟨decode_or_operand (i := .pByte b) (op := 0x41) rfl, fun s =>
    ⟨fun hroom => ?_, exec_pByte_of_overrun b⟩⟩
  refine ⟨(storePByte s b).pcnt, pcnt_storePByte hroom b, (exec_pByte_of_lt b hroom).trans ?_⟩
  rw [← putByte_eq_ofFn]
  rfl

/-- Settles O21: a full count publishes the staged bytes, which are the frame written out; any other count is refused. -/
theorem pCommitReplacesTheFrame : Obligations.PCommitReplacesTheFrame := by
  refine ⟨decodeOfEncodeIsTheInstruction .pCommit, fun s => ⟨exec_pCommit_of_badlen, fun hfull => ?_⟩⟩
  rw [sixBytes_eq]
  exact exec_pCommit_of_full hfull

end Sys2Proof.Machine
end

section
/-! SUPPORT. The two 20-bit fields of the pressure frame (R149) and the statement AdcFieldsArePackedMsbFirst. -/

namespace Sys2Proof.Machine

theorem toNat_adcP (p : Vector Byte 6) :
    (adcP p).toNat = p[0].toNat * 4096 + p[1].toNat * 16 + p[2].toNat / 16 :=
  toNat_byte_byte_highNibble p[0] p[1] p[2]

theorem toNat_adcT (p : Vector Byte 6) :
    (adcT p).toNat = p[3].toNat * 4096 + p[4].toNat * 16 + p[5].toNat / 16 :=
  toNat_byte_byte_highNibble p[3] p[4] p[5]

/-- Settles O49: the sums are `toNat_adcP` and `toNat_adcT`, the bounds those of 20 bits, and the example is evaluated. -/
theorem adcFieldsArePackedMsbFirst : Obligations.AdcFieldsArePackedMsbFirst :=
  ⟨fun p => ⟨toNat_adcP p, toNat_adcT p, Nat.le_pred_of_lt (adcP p).isLt, Nat.le_pred_of_lt (adcT p).isLt⟩, rfl, rfl⟩

end Sys2Proof.Machine
end

section
/-! SUPPORT. The coefficients (R143): their two readings and their range, on what stage T and a conversion depend (R142, R143),
and the statements CoefficientsAreLittleEndian and LastTwoCalibrationBytesAreUnused. -/

namespace Sys2Proof.Machine

theorem toNat_raw16 (cal : Vector Byte 26) (k : Fin 12) :
    (raw16 cal k).toNat = cal[2 * k.val + 1].toNat * 256 + cal[2 * k.val].toNat :=
  toNat_append_byte cal[2 * k.val + 1] cal[2 * k.val]

theorem natCast_raw16 (cal : Vector Byte 26) (k : Fin 12) :
    ((raw16 cal k).toNat : Int) = cal[2 * k.val + 1].toNat * 256 + cal[2 * k.val].toNat := by
  rw [toNat_raw16, Nat.cast_add, Nat.cast_mul]
  rfl

theorem raw16_congr {cal cal' : Vector Byte 26} {k : Fin 12} (hlo : cal'[2 * k.val] = cal[2 * k.val])
    (hhi : cal'[2 * k.val + 1] = cal[2 * k.val + 1]) : raw16 cal' k = raw16 cal k := by
  rw [raw16, raw16, hlo, hhi]

/-- `CAL_UNSIGNED` is `{0}` or `{0, 3}` (R143). -/
theorem readUnsigned_iff (cu : CalUnsigned) (k : Fin 12) :
    readUnsigned cu k = true ↔ k = 0 ∨ (k = 3 ∧ cu = .t1p1) := by
  cases cu <;> simp [readUnsigned]

theorem coef_of_unsigned {cu : CalUnsigned} {k : Fin 12} (h : readUnsigned cu k = true) (cal : Vector Byte 26) :
    coef cu cal k = (raw16 cal k).toNat :=
  if_pos h

theorem coef_of_signed {cu : CalUnsigned} {k : Fin 12} (h : readUnsigned cu k ≠ true) (cal : Vector Byte 26) :
    coef cu cal k = sext (raw16 cal k) :=
  if_neg h

theorem coef_congr (cu : CalUnsigned) {cal cal' : Vector Byte 26} {k : Fin 12} (h : raw16 cal' k = raw16 cal k) :
    coef cu cal' k = coef cu cal k := by
  rw [coef, coef, h]

/-- Either reading of 16 bits fits in 17 bits as a signed number. -/
theorem coef_bounds (cu : CalUnsigned) (cal : Vector Byte 26) (k : Fin 12) :
    -2 ^ 15 ≤ coef cu cal k ∧ coef cu cal k < 2 ^ 16 := by
  have hraw := (raw16 cal k).isLt
  by_cases h : readUnsigned cu k = true
  · rw [coef_of_unsigned h]
    omega
  · rw [coef_of_signed h, sext_eq_ite (by decide)]
    split <;> omega

/-- A coefficient is read back exactly: it fits in the 32 bits of the data (R42, R193). -/
theorem toInt_trunc_coef (cu : CalUnsigned) (cal : Vector Byte 26) (k : Fin 12) :
    (trunc 32 (coef cu cal k)).toInt = coef cu cal k := by
  obtain ⟨hlo, hhi⟩ := coef_bounds cu cal k
  exact toInt_trunc32_of_fits (by omega) (by omega)

/-- The two values of `CAL_UNSIGNED` differ in `c[3]` only. -/
theorem coef_eq_of_ne_three {k : Fin 12} (hk : k ≠ 3) (cu cu' : CalUnsigned) (cal : Vector Byte 26) :
    coef cu cal k = coef cu' cal k := by
  have hread : readUnsigned cu k = readUnsigned cu' k := by
    rw [Bool.eq_iff_iff, readUnsigned_iff, readUnsigned_iff]
    simp [hk]
  rw [coef, coef, hread]

/-- Stage T uses `c[0]` to `c[2]` only (R172). -/
theorem stageT_congr {c c' : Coefs} (h1 : c.T1 = c'.T1) (h2 : c.T2 = c'.T2) (h3 : c.T3 = c'.T3) (adcT : Int) :
    stageT c adcT = stageT c' adcT := by
  simp only [stageT, h1, h2, h3]

theorem stageT_coefs_eq (cu cu' : CalUnsigned) (cal : Vector Byte 26) (adcT : Int) :
    stageT (coefs cu cal) adcT = stageT (coefs cu' cal) adcT :=
  stageT_congr (coef_eq_of_ne_three (by decide) cu cu' cal) (coef_eq_of_ne_three (by decide) cu cu' cal)
    (coef_eq_of_ne_three (by decide) cu cu' cal) adcT

/-- The twelve coefficients come from `CAL[0]` to `CAL[23]` (R142, R143). -/
theorem coefs_congr (cu : CalUnsigned) {cal cal' : Vector Byte 26} (h : ∀ (k : Nat) (hk : k < 24), cal'[k] = cal[k]) :
    coefs cu cal' = coefs cu cal := by
  have hcoef (k : Fin 12) : coef cu cal' k = coef cu cal k :=
    coef_congr cu (raw16_congr (h _ (by omega)) (h _ (by omega)))
  simp only [coefs, hcoef]

/-- Settles O47: the number of the two bytes is `raw16`, in its two readings; the read-back is exact; and `tf` and `tc` are
values of stage T. -/
theorem coefficientsAreLittleEndian : Obligations.CoefficientsAreLittleEndian := by
  refine ⟨fun cu cal k raw hraw => ?_, fun s k => ?_, fun cal adcT adcP => ?_⟩
  · obtain rfl : raw = (raw16 cal k).toNat := hraw.trans (natCast_raw16 cal k).symm
    refine ⟨fun hmem => coef_of_unsigned ((readUnsigned_iff cu k).2 hmem) cal, fun h0 h3 => ?_⟩
    have hsigned : readUnsigned cu k ≠ true := by
      rw [ne_eq, readUnsigned_iff]
      rintro (hk | ⟨hk, rfl⟩)
      · exact h0 hk
      · cases h3 hk
    rw [coef_of_signed hsigned, sext_eq_ite (by decide)]
    split <;> split <;> omega
  · rw [BitVec.ofNat_add]
    exact ⟨_, toInt_trunc_coef s.calUnsigned s.cal k, exec_rd_plain (.coef k) nofun s⟩
  · simp only [convert_tf, convert_tc, stageT_coefs_eq .t1 .t1p1, and_self]

/-- Settles O48: a conversion takes its coefficients, and nothing else, from the store; both bytes are in the read map. -/
theorem lastTwoCalibrationBytesAreUnused : Obligations.LastTwoCalibrationBytesAreUnused := by
  refine ⟨fun s s' hcal hpfrm hcu => ?_, fun s => ⟨exec_rd_plain (.cal 24) nofun s, exec_rd_plain (.cal 25) nofun s⟩⟩
  rw [conversionOf, conversionOf, hpfrm, hcu, coefs_congr s.calUnsigned hcal]

end Sys2Proof.Machine
end

section
/-! SUPPORT. Bounds by absolute value of what the checked steps are made of (R8, R163): an exact result below half the range
does not overflow, and its wrapped value keeps the bound. -/

namespace Sys2Proof.Machine

theorem abs_wrap_le (n : Nat) (hn : 0 < n) (v : Int) : |wrap n v| ≤ 2 ^ (n - 1) := by
  obtain ⟨hlo, hhi⟩ := wrap_bounds n hn v
  exact abs_le.2 ⟨hlo, hhi.le⟩

theorem le_abs_of_ovf {n : Nat} (hn : 0 < n) {v : Int} (h : ovf n v = true) : 2 ^ (n - 1) ≤ |v| := by
  obtain hlo | hhi := (ovf_iff n hn v).1 h
  · exact le_abs.2 (.inr (by omega))
  · exact le_abs.2 (.inl hhi)

/-- A checked step `w = wrap_n(v)` whose exact result is bounded below half the range: it does not overflow, and the bound
holds of what is carried on. -/
theorem checked_step {n : Nat} {v w b : Int} (hw : w = wrap n v) (hv : |v| ≤ b) (hb : b < 2 ^ (n - 1))
    (hn : 0 < n := by decide) : ovf n v = false ∧ |w| ≤ b := by
  obtain ⟨hlo, hhi⟩ := abs_le.1 hv
  have hfits : -2 ^ (n - 1) ≤ v ∧ v < 2 ^ (n - 1) := ⟨by omega, by omega⟩
  exact ⟨(ovf_eq_false_iff n hn v).2 hfits, by rwa [hw, wrap_of_fits n hn v hfits]⟩

theorem abs_asr_le {v b : Int} {k : Nat} (h : |v| ≤ b * 2 ^ k) : |asr v k| ≤ b := by
  have hk : (0 : Int) < 2 ^ k := by positivity
  obtain ⟨hlo, hhi⟩ := abs_le.1 h
  obtain ⟨hlo', hhi'⟩ := asr_bounds v (-b) (b + 1) k (by rwa [neg_mul]) (by rw [add_mul, one_mul]; omega)
  exact abs_le.2 ⟨hlo', by omega⟩

theorem abs_mul_le_mul {v w a b : Int} (hv : |v| ≤ a) (hw : |w| ≤ b) : |v * w| ≤ a * b := by
  rw [abs_mul]
  exact mul_le_mul hv hw (abs_nonneg w) ((abs_nonneg v).trans hv)

theorem abs_shl_le {v b : Int} (k : Nat) (h : |v| ≤ b) : |shl v k| ≤ b * 2 ^ k :=
  abs_mul_le_mul h (abs_of_nonneg (by positivity)).le

theorem abs_add_le_add {v w a b : Int} (hv : |v| ≤ a) (hw : |w| ≤ b) : |v + w| ≤ a + b :=
  (abs_add_le v w).trans (add_le_add hv hw)

theorem abs_sub_le_add {v w a b : Int} (hv : |v| ≤ a) (hw : |w| ≤ b) : |v - w| ≤ a + b :=
  (abs_sub v w).trans (add_le_add hv hw)

end Sys2Proof.Machine
end

section
/-! SUPPORT. The ranges of stage T (R172, R173) and the statement StageTRanges. From `var1` and `var2` on they hold for any
coefficients and any ADC code: both are shifted from values wrapped to 32 bits. -/

namespace Sys2Proof.Machine

theorem stageT_a3_bounds {c : Coefs} {a : Int} (h0 : 0 ≤ c.T1) (h1 : c.T1 ≤ 65535) (ha0 : 0 ≤ a) (ha1 : a ≤ 2 ^ 20 - 1) :
    -131070 ≤ (stageT c a).a3 ∧ (stageT c a).a3 ≤ 131071 := by
  rw [stageT_a3, stageT_a1, stageT_a2, asr]
  omega

theorem stageT_b1_bounds {c : Coefs} {a : Int} (h0 : 0 ≤ c.T1) (h1 : c.T1 ≤ 65535) (ha0 : 0 ≤ a) (ha1 : a ≤ 2 ^ 20 - 1) :
    -65535 ≤ (stageT c a).b1 ∧ (stageT c a).b1 ≤ 65535 := by
  rw [stageT_b1, asr]
  omega

theorem abs_stageT_b3_le (c : Coefs) (a : Int) : |(stageT c a).b3| ≤ 2 ^ 19 := by
  rw [stageT_b3, stageT_b2]
  exact abs_asr_le (abs_wrap_le 32 (by decide) _)

theorem abs_stageT_var1_le (c : Coefs) (a : Int) : |(stageT c a).var1| ≤ 2 ^ 20 := by
  rw [stageT_var1, stageT_a4]
  exact abs_asr_le (abs_wrap_le 32 (by decide) _)

theorem abs_stageT_var2_le (c : Coefs) (a : Int) : |(stageT c a).var2| ≤ 2 ^ 17 := by
  rw [stageT_var2, stageT_b4]
  exact abs_asr_le (abs_wrap_le 32 (by decide) _)

/-- [O4] never overflows. -/
theorem stageT_tf_checked (c : Coefs) (a : Int) :
    ovf 32 ((stageT c a).var1 + (stageT c a).var2) = false ∧ |(stageT c a).tf| ≤ 2 ^ 20 + 2 ^ 17 :=
  checked_step (stageT_tf c a) (abs_add_le_add (abs_stageT_var1_le c a) (abs_stageT_var2_le c a)) (by norm_num)

/-- Of the six steps the last three, [O4] to [O6], never overflow. -/
theorem stageT_steps_eq (c : Coefs) (a : Int) : (stageT c a).steps =
    [ovf 32 ((stageT c a).a3 * c.T2), ovf 32 ((stageT c a).b1 * (stageT c a).b1), ovf 32 ((stageT c a).b3 * c.T3),
      false, false, false] := by
  obtain ⟨ho4, htf⟩ := stageT_tf_checked c a
  obtain ⟨ho5, ht1⟩ := checked_step (stageT_t1 c a) (abs_mul_le_mul htf (abs_of_nonneg (by decide)).le) (by norm_num)
  obtain ⟨ho6, -⟩ := checked_step (stageT_t2 c a) (abs_add_le_add ht1 (abs_of_nonneg (by decide)).le) (by norm_num)
  rw [stageT_steps, ho4, ho5, ho6]

/-- Settles O55: the ranges have a lemma each; a product of [O1] or [O2] reaches `2^31` only when neither factor is below
the bound that the other one's range leaves it. -/
theorem stageTRanges : Obligations.StageTRanges := by
  rintro c a t hT1 hT1' hT2 hT2' hT3 hT3' ha ha' rfl
  have ha3 := stageT_a3_bounds hT1 hT1' ha ha'
  have hb1 := stageT_b1_bounds hT1 hT1' ha ha'
  have habs3 : |(stageT c a).a3| ≤ 131071 := abs_le.2 ⟨by omega, ha3.2⟩
  have habs2 : |c.T2| ≤ 32768 := abs_le.2 ⟨hT2, by omega⟩
  rw [stageT_steps_eq]
  refine ⟨ha3, abs_mul_le_mul habs3 habs2, fun h => ?_, fun h => ⟨?_, ?_⟩, hb1, fun h => ?_, abs_stageT_b3_le c a,
    fun h => ?_, abs_stageT_var1_le c a, abs_stageT_var2_le c a, (stageT_tf_checked c a).2, rfl, rfl, rfl⟩
  · exact le_abs_of_ovf (by decide) (Option.some.inj h)
  · by_contra hlt
    have := abs_mul_le_mul (not_lt.1 hlt) habs2
    omega
  · by_contra hlt
    have := abs_mul_le_mul habs3 (not_lt.1 hlt)
    omega
  · by_contra hlt
    have hsmall : |(stageT c a).b1| ≤ 46340 := by omega
    have hsquare := abs_mul_le_mul hsmall hsmall
    have hbig := le_abs_of_ovf (by decide) (Option.some.inj h)
    omega
  · exact le_abs_of_ovf (by decide) (Option.some.inj h)

end Sys2Proof.Machine
end

section
/-! SUPPORT. The two polynomial terms (R174): the bounds that each step hands to the next, and the statement
PolynomialTermsNeverOverflow. -/

namespace Sys2Proof.Machine

/-- The coefficients `P2` to `P6`, which R174 uses, are signed 16-bit numbers. -/
abbrev SignedPolyCoefs (c : Coefs) : Prop :=
  ∀ p ∈ [c.P2, c.P3, c.P4, c.P5, c.P6], -32768 ≤ p ∧ p ≤ 32767

theorem abs_polyTerms_v_le {tf : Int} (htf : |tf| ≤ 2 ^ 20 + 2 ^ 17) (c : Coefs) : |(polyTerms c tf).v| ≤ 1307648 := by
  rw [polyTerms_v]
  exact abs_sub_le_add htf (abs_of_nonneg (by decide)).le

/-- [O7] to [O16] in order; the bounds of the two terms are rounded up. -/
theorem polyTerms_checked {c : Coefs} {tf : Int} (htf : |tf| ≤ 2 ^ 20 + 2 ^ 17) (hc : SignedPolyCoefs c) :
    (polyTerms c tf).steps = List.replicate 10 false ∧ |(polyTerms c tf).var1| ≤ 2 ^ 49 ∧
      |(polyTerms c tf).var2| ≤ 2 ^ 56 := by
  have hp (p : Int) (hmem : p ∈ [c.P2, c.P3, c.P4, c.P5, c.P6]) : |p| ≤ 32768 :=
    abs_le.2 ⟨(hc p hmem).1, by have := (hc p hmem).2; omega⟩
  have hv := abs_polyTerms_v_le htf c
  obtain ⟨o7, h1⟩ := checked_step (polyTerms_p1 c tf) (abs_mul_le_mul hv hv) (by norm_num)
  obtain ⟨o8, h2⟩ := checked_step (polyTerms_p2 c tf) (abs_mul_le_mul h1 (hp c.P6 (by simp))) (by norm_num)
  obtain ⟨o9, h3⟩ := checked_step (polyTerms_p3 c tf) (abs_mul_le_mul hv (hp c.P5 (by simp))) (by norm_num)
  obtain ⟨o10, h4⟩ := checked_step (polyTerms_p4 c tf) (abs_shl_le 17 h3) (by norm_num)
  obtain ⟨o11, h5⟩ := checked_step (polyTerms_p5 c tf) (abs_add_le_add h2 h4) (by norm_num)
  obtain ⟨o12, hvar2⟩ := checked_step (polyTerms_var2 c tf)
    (abs_add_le_add h5 (abs_shl_le 35 (hp c.P4 (by simp)))) (by norm_num)
  obtain ⟨o13, h7⟩ := checked_step (polyTerms_p7 c tf) (abs_mul_le_mul h1 (hp c.P3 (by simp))) (by norm_num)
  have h8 : |(polyTerms c tf).p8| ≤ 2 ^ 48 := polyTerms_p8 c tf ▸ abs_asr_le (h7.trans (by norm_num))
  obtain ⟨o14, h9⟩ := checked_step (polyTerms_p9 c tf) (abs_mul_le_mul hv (hp c.P2 (by simp))) (by norm_num)
  obtain ⟨o15, h10⟩ := checked_step (polyTerms_p10 c tf) (abs_shl_le 12 h9) (by norm_num)
  obtain ⟨o16, hvar1⟩ := checked_step (polyTerms_var1 c tf) (abs_add_le_add h8 h10) (by norm_num)
  refine ⟨?_, hvar1.trans (by norm_num), hvar2.trans (by norm_num)⟩
  rw [polyTerms_steps, o7, o8, o9, o10, o11, o12, o13, o14, o15, o16]
  rfl

/-- Settles O56, with the bound on `v` from that on `tf`. -/
theorem polynomialTermsNeverOverflow : Obligations.PolynomialTermsNeverOverflow := by
  intro c tf htf hc
  obtain ⟨hsteps, -, -⟩ := polyTerms_checked htf hc
  exact ⟨abs_polyTerms_v_le htf c, hsteps⟩

end Sys2Proof.Machine
end

section
/-! SUPPORT. The zero-denominator guard as the case split of a conversion (R171, R176), and the statements
CompensationHasItsNamedProperties and WorkedExampleOfTheDatasheet. -/

namespace Sys2Proof.Machine

theorem denominator_den_eq_zero_iff (c : Coefs) (var1 : Int) :
    (denominator c var1).den = 0 ↔ 0 ≤ (denominator c var1).d2 ∧ (denominator c var1).d2 < 2 ^ 33 := by
  rw [denominator_den, asr]
  omega

theorem denominator_d2_of_P1_eq_zero {c : Coefs} (h : c.P1 = 0) (var1 : Int) : (denominator c var1).d2 = 0 := by
  rw [denominator_d2, h, mul_zero]
  rfl

theorem convert_pz_iff (c : Coefs) (a p : Int) : (convert c a p).pz = true ↔ (divisor c a).den = 0 := by
  by_cases h : (divisor c a).den = 0
  · obtain ⟨-, hpz, -⟩ := convert_guarded c a p h
    exact iff_of_true hpz h
  · obtain ⟨-, hpz, -⟩ := convert_unguarded c a p h
    exact iff_of_false (by simp [hpz]) h

theorem convert_pc_of_pz {c : Coefs} {a p : Int} (h : (convert c a p).pz = true) : (convert c a p).pc = 0 :=
  (convert_guarded c a p ((convert_pz_iff c a p).1 h)).1

/-- With the guard only [O1] to [O18] are evaluated, without it all 28 steps (R176, R179). -/
theorem convert_steps_length (c : Coefs) (a p : Int) :
    (convert c a p).steps.length = if (convert c a p).pz then 18 else 28 := by
  by_cases h : (divisor c a).den = 0
  · obtain ⟨-, hpz, hsteps⟩ := convert_guarded c a p h
    rw [hpz, hsteps]
    rfl
  · obtain ⟨-, hpz, hsteps⟩ := convert_unguarded c a p h
    rw [hpz, hsteps]
    rfl

/-- Settles O59: `tf` and `tc` are values of stage T, and a set flag is the guarded case. -/
theorem compensationHasItsNamedProperties : Obligations.CompensationHasItsNamedProperties := by
  refine ⟨fun c c' a p p' h1 h2 h3 => ?_, fun c a p => convert_pc_of_pz⟩
  simp only [convert_tf, convert_tc, stageT_congr h1 h2 h3, and_self]

/-- Settles O60, by running both conversions. -/
theorem workedExampleOfTheDatasheet : Obligations.WorkedExampleOfTheDatasheet := by
  rintro c rfl
  decide +kernel

end Sys2Proof.Machine
end

section
/-! SUPPORT. `CONVERT` as an equation in its two cases (R170), and the statements ConvertWritesTheConversion and
ZeroDenominatorIsGuarded. -/

namespace Sys2Proof.Machine

theorem ready_iff (s : State) : ready s = true ↔ s.pfrmValid = true ∧ s.calptr.val = 26 := by
  rw [ready, Bool.and_eq_true, calValid_iff]

theorem exec_convert_of_refused {s : State} (h : s.pfrmValid = false ∨ s.calptr.val ≠ 26) :
    exec .convert s = .next (faultRespond .nodata 0 s) :=
  if_pos (h.imp_right (calValid_eq_false_iff s).2)

theorem exec_convert_of_ready {s : State} (h : ready s = true) :
    exec .convert s = .next (respondConverted (conversionOf s).ov 0 (storeConversion (conversionOf s) s)) :=
  if_neg fun hrefused => by
    obtain ⟨hf, hv⟩ := Bool.and_eq_true_iff.1 h
    obtain hf' | hv' := hrefused
    · simp [hf] at hf'
    · simp [hv] at hv'

/-- Both ends of a converting command as one record update (R170, R179). -/
theorem respondConverted_eq (ov : Bool) (d : Data) (s : State) : respondConverted ov d s = { s with
    fault := if ov then s.fault ||| 16 else s.fault, rsps := s.rsps ++ [⟨if ov then .ovf else .ok, d⟩] } := by
  cases ov <;> rfl

/-- Where the cached results are current there is nothing new to store (R45 item 4, R170). -/
theorem storeConversion_eq_self {s : State} (hn : s.convNeeded = false) (hcur : resultsCurrent s = true) :
    storeConversion (conversionOf s) s = s := by
  obtain ⟨htf, htc, hpc, hpz⟩ := (resultsCurrent_iff s).1 hcur
  rw [storeConversion, ← htf, ← htc, ← hpc, ← hpz, ← hn]

/-- Settles O22: the two cases of the command; under R45's invariant the values stored are those that are there; and the
example is V40's conversion. -/
theorem convertWritesTheConversion : Obligations.ConvertWritesTheConversion := by
  refine ⟨decodeOfEncodeIsTheInstruction .convert, fun s => ⟨exec_convert_of_refused, fun hf hp r hr => ?_,
    fun hc hf hn => ?_, fun hf hp hT hP hcoefs => ?_⟩⟩
  · obtain rfl : r = conversionOf s := hr
    rw [exec_convert_of_ready ((ready_iff s).2 ⟨hf, hp⟩), respondConverted_eq]
    rfl
  · obtain ⟨-, -, hcur⟩ := hc
    obtain ⟨hv, hres⟩ := hcur hf hn
    refine ⟨_, exec_convert_of_ready (Bool.and_eq_true_iff.2 ⟨hf, hv⟩), ?_⟩
    rw [storeConversion_eq_self hn hres, respondConverted_eq]
  · obtain ⟨⟨htf, htc, hpc, hpz, hov⟩, -⟩ := workedExampleOfTheDatasheet _ hcoefs
    have hconv : conversionOf s = convert (coefs s.calUnsigned s.cal) 519888 415148 := by
      rw [conversionOf, hT, hP]
      rfl
    rw [exec_convert_of_ready ((ready_iff s).2 ⟨hf, hp⟩), hconv, respondConverted_eq, storeConversion, htf, htc, hpc, hpz,
      hov]
    rfl

/-- Settles O57: the guard is the condition on `d2`, and a guarded conversion without overflow answers `OK` with pressure 0. -/
theorem zeroDenominatorIsGuarded : Obligations.ZeroDenominatorIsGuarded := by
  refine ⟨?_, fun s hready hpz hov => ?_⟩
  · rintro c a p d rfl
    have hlen := convert_steps_length c a p
    refine ⟨denominator_den_eq_zero_iff c _, fun hP1 => ?_, fun hden => ?_, fun hden => ?_⟩
    · rw [denominator_den_eq_zero_iff, denominator_d2_of_P1_eq_zero hP1]
      decide
    · have hpz := (convert_pz_iff c a p).2 hden
      rw [hpz] at hlen
      exact ⟨convert_pc_of_pz hpz, hpz, hlen, convert_tf c a p, convert_tc c a p⟩
    · have hpz := Bool.eq_false_iff.2 (mt (convert_pz_iff c a p).1 hden)
      rw [hpz] at hlen
      exact ⟨hpz, hlen⟩
  · refine ⟨_, exec_convert_of_ready hready, ?_⟩
    rw [hov]
    exact ⟨convert_pc_of_pz hpz, hpz, rfl, rfl⟩

end Sys2Proof.Machine
end

section
/-! SUPPORT. Which of the 28 steps can overflow (R179): the bounds of stage P on coefficients read from a calibration block,
the numbers of the steps that a list of outcomes leaves open, the commands that convert, and the statement
OnlyListedStepsCanOverflow. -/

namespace Sys2Proof.Machine

/-- A coefficient that neither value of `CAL_UNSIGNED` names is a signed 16-bit number (R143). -/
theorem coef_bounds_of_signed {k : Fin 12} (h0 : k ≠ 0) (h3 : k ≠ 3) (cu : CalUnsigned) (cal : Vector Byte 26) :
    -32768 ≤ coef cu cal k ∧ coef cu cal k ≤ 32767 := by
  have hsigned : readUnsigned cu k ≠ true := by simp [readUnsigned_iff, h0, h3]
  have hraw := (raw16 cal k).isLt
  rw [coef_of_signed hsigned, sext_eq_ite (by decide)]
  split <;> omega

theorem signedPolyCoefs_coefs (cu : CalUnsigned) (cal : Vector Byte 26) : SignedPolyCoefs (coefs cu cal) := by
  simp only [SignedPolyCoefs, coefs, List.forall_mem_cons]
  refine ⟨?_, ?_, ?_, ?_, ?_, nofun⟩ <;> exact coef_bounds_of_signed (by decide) (by decide) cu cal

section
variable {c : Coefs} (hc : SignedPolyCoefs c) (a : Int)
include hc

/-- [O7] to [O16] with the fine temperature of stage T. -/
theorem polyTerms_stageT_checked :
    (polyTerms c (stageT c a).tf).steps = List.replicate 10 false ∧ |(polyTerms c (stageT c a).tf).var1| ≤ 2 ^ 49 ∧
      |(polyTerms c (stageT c a).tf).var2| ≤ 2 ^ 56 :=
  polyTerms_checked (stageT_tf_checked c a).2 hc

/-- [O17] never overflows; [O18] multiplies the bounded `d1` by `P1`. -/
theorem divisor_checked :
    (divisor c a).steps = [false, ovf 64 ((divisor c a).d1 * c.P1)] ∧ |(divisor c a).d1| ≤ 2 ^ 47 + 2 ^ 49 := by
  obtain ⟨-, hvar1, -⟩ := polyTerms_stageT_checked hc a
  obtain ⟨ho17, hd1⟩ := checked_step (denominator_d1 c (polyTerms c (stageT c a).tf).var1)
    (abs_add_le_add (abs_of_nonneg (by decide)).le hvar1) (by norm_num)
  exact ⟨by rw [divisor, denominator_steps, ho17], hd1⟩

end

/-- [O19] never overflows: `n1` is at most 2^20, and the polynomial term is bounded. -/
theorem quotient_n2_checked {p var2 : Int} (hp : 0 ≤ p ∧ p < 2 ^ 20) (h : |var2| ≤ 2 ^ 56) (c : Coefs) (den : Int) :
    ovf 64 (shl (quotient c p var2 den).n1 31 - var2) = false ∧
      |(quotient c p var2 den).n2| ≤ 2 ^ 20 * 2 ^ 31 + 2 ^ 56 := by
  have hn1 : |(quotient c p var2 den).n1| ≤ 2 ^ 20 := by
    rw [quotient_n1]
    exact abs_le.2 ⟨by omega, by omega⟩
  exact checked_step (quotient_n2 c p var2 den) (abs_sub_le_add (abs_shl_le 31 hn1) h) (by norm_num)

/-- [O20] needs a large `n2` (R179). -/
theorem le_abs_n2_of_ovf {v : Int} (h : ovf 64 (v * 3125) = true) : 2951479051793529 ≤ |v| := by
  by_contra hlt
  have hle : |v| ≤ 2951479051793528 := by omega
  have hprod : |v * 3125| ≤ 2951479051793528 * 3125 := abs_mul_le_mul hle (abs_of_nonneg (by decide)).le
  have hbig := le_abs_of_ovf (by decide) h
  omega

/-- A 64-bit dividend has a quotient outside 64 bits in one case only (R164). -/
theorem ovf_sdiv_iff {v d : Int} (hlo : -2 ^ 63 ≤ v) (hhi : v < 2 ^ 63) (hd : d ≠ 0) :
    ovf 64 (sdiv v d) = true ↔ v = -2 ^ 63 ∧ d = -1 := by
  rw [ovf_iff 64 (by decide), sdiv]
  by_cases hneg : d = -1
  · subst hneg
    rw [Int.tdiv_neg, Int.tdiv_one]
    omega
  by_cases hone : d = 1
  · subst hone
    rw [Int.tdiv_one]
    omega
  · have hhalf : v.natAbs / d.natAbs ≤ v.natAbs / 2 := Nat.div_le_div_left (by omega) (by decide)
    have habs := Int.natAbs_tdiv v d
    rw [show v.natAbs.div d.natAbs = v.natAbs / d.natAbs from rfl] at habs
    omega

/-- Of the steps numbered from `first` on, only those with a number in `allowed` overflowed. -/
def OverflowsOnlyIn (allowed : List Nat) : Nat → List Bool → Prop
  | _, [] => True
  | first, o :: steps => (o = true → first ∈ allowed) ∧ OverflowsOnlyIn allowed (first + 1) steps

theorem mem_of_overflowsOnlyIn {allowed : List Nat} {first : Nat} {steps : List Bool}
    (h : OverflowsOnlyIn allowed first steps) {k : Nat} (hk : steps[k]? = some true) : k + first ∈ allowed := by
  induction steps generalizing first k with
  | nil => cases hk
  | cons o steps ih =>
    obtain ⟨hhead, htail⟩ := h
    cases k with
    | zero => exact (Nat.zero_add first).symm ▸ hhead (Option.some.inj hk)
    | succ k => exact Nat.succ_add_eq_add_succ k first ▸ ih htail hk

theorem overflowsOnlyIn_append (allowed : List Nat) (first : Nat) (l m : List Bool) :
    OverflowsOnlyIn allowed first (l ++ m) ↔
      OverflowsOnlyIn allowed first l ∧ OverflowsOnlyIn allowed (first + l.length) m := by
  induction l generalizing first with
  | nil => simp [OverflowsOnlyIn]
  | cons o l ih => simp [OverflowsOnlyIn, ih, and_assoc, Nat.add_comm 1, Nat.add_assoc]

/-- The numbers of the steps that R179 lists. -/
def overflowable : List Nat := [1, 2, 3, 18, 20, 21, 22, 23, 24, 25, 26, 27, 28]

/-- [O4] to [O17] and [O19] never overflow, whether the guard fires or not (R179). -/
theorem convert_overflowsOnlyIn {c : Coefs} (hc : SignedPolyCoefs c) (a : Int) {p : Int} (hp : 0 ≤ p ∧ p < 2 ^ 20) :
    OverflowsOnlyIn overflowable 1 (convert c a p).steps := by
  obtain ⟨hpoly, -, hvar2⟩ := polyTerms_stageT_checked hc a
  obtain ⟨hdivisor, -⟩ := divisor_checked hc a
  have hfirst : OverflowsOnlyIn overflowable 1
      ((stageT c a).steps ++ (polyTerms c (stageT c a).tf).steps ++ (divisor c a).steps) := by
    rw [stageT_steps_eq, hpoly, hdivisor]
    simp [OverflowsOnlyIn, overflowable]
  by_cases h : (divisor c a).den = 0
  · obtain ⟨-, -, hsteps⟩ := convert_guarded c a p h
    rwa [hsteps]
  · obtain ⟨-, -, hsteps⟩ := convert_unguarded c a p h
    obtain ⟨ho19, -⟩ := quotient_n2_checked hp hvar2 c (divisor c a).den
    rw [hsteps, overflowsOnlyIn_append]
    refine ⟨hfirst, ?_⟩
    rw [stageT_steps_eq, hpoly, hdivisor, quotient_steps, ho19]
    simp [OverflowsOnlyIn, overflowable]

theorem Conversion.ov_iff (r : Conversion) : r.ov = true ↔ ∃ k : Nat, r.steps[k]? = some true := by
  simp [Conversion.ov, List.mem_iff_getElem?]

theorem readResult_of_converting (q : ResultReg) {s : State} (hready : ready s = true) (hn : s.convNeeded = true) :
    readResult q s = respondConverted (conversionOf s).ov
      (resultValue q (consume q (storeConversion (conversionOf s) s)))
      (consume q (storeConversion (conversionOf s) s)) := by
  obtain ⟨hf, hv⟩ := Bool.and_eq_true_iff.1 hready
  obtain ⟨hrefused, -⟩ | ⟨-, -, -, h⟩ | ⟨-, hn', -⟩ := readResult_cases q s
  · simp [hf, hv] at hrefused
  · exact h
  · simp [hn] at hn'

/-- A command that runs a conversion ends in `respondConverted`, with nothing answered or flagged before. -/
theorem exec_of_converting {s : State} {i : Instr} (hready : ready s = true)
    (hi : i = .convert ∨ (s.convNeeded = true ∧ i ∈ [.rd 0x12, .rd 0x13, .rd 0x14])) :
    ∃ d u, exec i s = .next (respondConverted (conversionOf s).ov d u) ∧ u.fault = s.fault ∧ u.rsps = s.rsps := by
  obtain rfl | ⟨hn, hrd⟩ := hi
  · exact ⟨_, _, exec_convert_of_ready hready, rfl, rfl⟩
  · obtain ⟨q, rfl⟩ : ∃ q, i = .rd (Reg.number (.result q)) := by
      simp only [List.mem_cons, List.not_mem_nil, or_false] at hrd
      obtain rfl | rfl | rfl := hrd
      exacts [⟨.tfine, rfl⟩, ⟨.tcomp, rfl⟩, ⟨.pcomp, rfl⟩]
    exact ⟨_, _, (exec_rd_result q s).trans (congrArg _ (readResult_of_converting q hready hn)), by simp, by simp⟩

theorem adc_bounds (p : BitVec 20) : 0 ≤ (p.toNat : Int) ∧ (p.toNat : Int) < 2 ^ 20 :=
  ⟨Int.natCast_nonneg _, by exact_mod_cast p.isLt⟩

/-- Settles O58: the steps by `convert_overflowsOnlyIn`, their count by the guard; [O20] and [O21] by the bounds on `n2` and
`n3`; and the command's end is `respondConverted`. -/
theorem onlyListedStepsCanOverflow : Obligations.OnlyListedStepsCanOverflow := by
  refine ⟨?_, ?_, fun s t r i hready hi h hr => ?_⟩
  · rintro cu cal a p r rfl
    have hlen := convert_steps_length (coefs cu cal) a.toNat p.toNat
    have honly := convert_overflowsOnlyIn (signedPolyCoefs_coefs cu cal) a.toNat (adc_bounds p)
    exact ⟨Conversion.ov_iff _, fun hpz => by rw [hlen, hpz]; rfl, fun hpz => by rw [hlen, hpz]; rfl,
      fun k => mem_of_overflowsOnlyIn honly⟩
  · rintro c cu cal a p d q rfl rfl rfl
    have hc := signedPolyCoefs_coefs cu cal
    obtain ⟨-, -, hvar2⟩ := polyTerms_stageT_checked hc a.toNat
    obtain ⟨-, hd1⟩ := divisor_checked hc a.toNat
    obtain ⟨-, hn2⟩ := quotient_n2_checked (adc_bounds p) hvar2 (coefs cu cal) (divisor (coefs cu cal) a.toNat).den
    rw [quotient_steps]
    refine ⟨hd1.trans_lt (by norm_num), hn2.trans_lt (by norm_num), fun h => le_abs_n2_of_ovf (Option.some.inj h),
      fun hden => ?_⟩
    refine Iff.trans ⟨Option.some.inj, congrArg some⟩ (ovf_sdiv_iff ?_ ?_ hden) <;> rw [quotient_n3]
    exacts [(wrap_bounds 64 (by decide) _).1, (wrap_bounds 64 (by decide) _).2]
  · obtain ⟨d, u, hexec, hfault, hrsps⟩ := exec_of_converting hready hi
    cases hexec.symm.trans h
    rw [respondConverted_eq] at hr ⊢
    obtain rfl : _ = r := List.singleton_inj.1 (List.append_cancel_left (hrsps ▸ hr))
    constructor <;> intro hov <;> simp [hov, hfault]

end Sys2Proof.Machine
end

section
/-! SUPPORT. `NOP` (R190) and the statement NopOnlyResponds. -/

namespace Sys2Proof.Machine

theorem exec_nop (s : State) : exec .nop s = .next (respond .ok 0 s) := rfl

/-- Settles O11: the word is the command's, and all the command does is respond. -/
theorem nopOnlyResponds : Obligations.NopOnlyResponds :=
  ⟨decodeOfEncodeIsTheInstruction .nop, exec_nop⟩

end Sys2Proof.Machine
end

section
/-! SUPPORT. `RD` of a result register (R196, R197): its cached case as an equation, its response code, the value it returns
under R45's invariant, and the statements ResultReadConvertsLazily, PressureReadConsumesHasData and ResultReadIsNeverStale. -/

namespace Sys2Proof.Machine

/-- A result read with nothing to convert answers from the cache (R196). -/
theorem exec_rd_result_of_cached (q : ResultReg) {s : State} (hf : s.pfrmValid = true) (hn : s.convNeeded = false) :
    exec (.rd (Reg.number (.result q))) s = .next (respond .ok (resultValue q s) (consume q s)) :=
  (exec_rd_result q s).trans (congrArg _ (readResult_of_cached q hf hn))

/-- Settles O24: a lemma per case of `readResult`, and the register decides which value is returned and whether `PHASDATA` is
cleared. -/
theorem resultReadConvertsLazily : Obligations.ResultReadConvertsLazily := by
  intro s n q hnq
  obtain rfl : n = Reg.number (.result q) := by obtain ⟨rfl, rfl⟩ | ⟨rfl, rfl⟩ | ⟨rfl, rfl⟩ := hnq <;> rfl
  refine ⟨fun hrefused => ?_, fun hf hn hp r hr => ?_, fun hf hn => ?_⟩
  · rw [← calValid_eq_false_iff] at hrefused
    rw [exec_rd_result, readResult_of_refused q hrefused]
    rfl
  · obtain rfl : r = conversionOf s := hr
    rw [exec_rd_result, readResult_of_converting q ((ready_iff s).2 ⟨hf, hp⟩) hn, respondConverted_eq]
    cases q <;> rfl
  · rw [exec_rd_result_of_cached q hf hn]
    cases q <;> rfl

/-- `NODATA` is the code of a refused result read and of no other (R196, R211). -/
theorem readResult_code_eq_nodata_iff {q : ResultReg} {s : State} {r : Response}
    (hr : (readResult q s).rsps = s.rsps ++ [r]) :
    r.code = .nodata ↔ s.pfrmValid = false ∨ s.convNeeded = true ∧ calValid s = false := by
  obtain ⟨hrefused, h⟩ | ⟨hf, -, hv, h⟩ | ⟨hf, hn, h⟩ := readResult_cases q s <;> rw [h] at hr
  · obtain rfl := List.singleton_inj.1 (List.append_cancel_left hr)
    exact iff_of_true rfl hrefused
  · simp only [respondConverted_rsps, consume_rsps, storeConversion_rsps, List.append_cancel_left_eq,
      List.singleton_inj] at hr
    obtain rfl := hr
    cases (conversionOf s).ov <;> simp [hf, hv]
  · simp only [respond_rsps, consume_rsps, List.append_cancel_left_eq, List.singleton_inj] at hr
    obtain rfl := hr
    simp [hf, hn]

/-- Settles O32: a refused read leaves `PHASDATA`; any other leaves a cached result that the second read returns;
and `PHASDATA` has two writers only. -/
theorem pressureReadConsumesHasData : Obligations.PressureReadConsumesHasData := by
  refine ⟨fun s t h r hr => ?_, fun n s t hn h => ?_⟩
  · obtain rfl : readResult .pcomp s = t := Host.Outcome.next.inj ((exec_rd_result .pcomp s).symm.trans h)
    have hcode := readResult_code_eq_nodata_iff hr
    refine ⟨fun hno => by rw [readResult_of_refused .pcomp (hcode.1 hno)]; rfl, fun hok => ?_⟩
    obtain ⟨hrefused, -⟩ | ⟨hf, hn, hd, c, hc⟩ := readResult_refused_or_cached .pcomp s
    · exact absurd (hcode.2 hrefused) hok
    · obtain rfl : r = ⟨c, _⟩ := List.singleton_inj.1 (List.append_cancel_left (hr.symm.trans hc))
      refine ⟨hd rfl, (exec_rd_result_of_cached .pcomp hf hn).trans ?_⟩
      rw [consume_eq_self hd]
      rfl
  · obtain ⟨-, -, -, -, -, -, -, -, -, -, hframe, -⟩ := onlyListedWritersChangeAnElement (.rd n) s t h
    refine hframe ⟨nofun, ?_⟩
    obtain rfl | rfl | rfl := hn <;> decide

/-- What a conversion gives for each result register (R42, R170). -/
def Conversion.result (r : Conversion) : ResultReg → Data
  | .tfine => trunc 32 r.tf
  | .tcomp => trunc 32 r.tc
  | .pcomp => r.pc

theorem resultValue_of_resultsCurrent (q : ResultReg) {s : State} (h : resultsCurrent s = true) :
    resultValue q s = (conversionOf s).result q := by
  obtain ⟨htf, htc, hpc, -⟩ := (resultsCurrent_iff s).1 h
  cases q
  exacts [htf, htc, hpc]

/-- A result read writes nothing that a conversion reads (R170, R196). -/
@[simp] theorem conversionOf_readResult (q : ResultReg) (s : State) : conversionOf (readResult q s) = conversionOf s := by
  simp [conversionOf]

/-- Settles O37: a read that is not refused leaves a cached result that is its answer, and the invariant, which the read
keeps, makes that the result of the conversion. -/
theorem resultReadIsNeverStale : Obligations.ResultReadIsNeverStale := by
  intro s n hc hready hn
  obtain ⟨q, rfl⟩ := (number_result_iff n).2 hn
  obtain ⟨hf, hv⟩ := Bool.and_eq_true_iff.1 hready
  obtain ⟨hrefused, -⟩ | ⟨hf', hn', -, code, hcode⟩ := readResult_refused_or_cached q s
  · simp [hf, hv] at hrefused
  · obtain ⟨-, -, hcur⟩ := coherent_readResult q hc
    obtain ⟨-, hres⟩ := hcur hf' hn'
    rw [resultValue_of_resultsCurrent q hres, conversionOf_readResult] at hcode
    refine ⟨_, exec_rd_result q s, code, hcode.trans ?_, coherent_readResult q hc, hn'⟩
    cases q <;> rfl

end Sys2Proof.Machine
end

section
/-! SUPPORT. The accessors (R194) and the statement AccessorsGiveExactQuantities. -/

namespace Sys2Proof.Machine

/-- An accessor of a register without side effect reads its value and changes nothing else (R193, R194). -/
theorem exec_command_of_plain {a : Accessor} (ha : ∀ q, a.reg ≠ .result q) (s : State) :
    exec a.command s = .next { s with rsps := s.rsps ++ [⟨.ok, regRead a.reg s⟩] } :=
  exec_rd_plain a.reg ha s

/-- An unsigned element of the state, widened to the 32 bits of the data, is read as its number (R8, R42). -/
theorem quantity_zext32 {w : Nat} (hw : w ≤ 32) (v : BitVec w) :
    Reading.quantity (zext32 v).toNat = .quantity v.toNat := by
  rw [toNat_zext32 hw]

/-- `hasData()` is that one of the two fields is not zero (R126). -/
theorem hHasData_eq_decide (s : State) :
    hHasData s = decide ((hraw s.frm).toNat ≠ 0 ∨ (traw s.frm).toNat ≠ 0) :=
  Bool.eq_iff_iff.2 ((hHasData_iff s).trans decide_eq_true_iff.symm)

/-- `humidity()` in percent (R127, R131). -/
theorem value_hHumidity (s : State) : Accessor.hHumidity.value (regRead .hum s) =
    .quantity ((hraw s.frm).toNat / 2 ^ 20 * 100) := by
  simp only [Accessor.value, regRead, toNat_trunc_hum]
  congr 1
  push_cast
  ring

/-- `temperature()` in degrees Celsius (R128, R131). -/
theorem value_hTemperature (s : State) : Accessor.hTemperature.value (regRead .tempc s) =
    .quantity ((traw s.frm).toNat / 2 ^ 20 * 200 - 50) := by
  simp only [Accessor.value, regRead, sext, toInt_trunc_tempC]
  congr 1
  push_cast
  ring

/-- `temperature()` in degrees Fahrenheit (R129, R131). -/
theorem value_hTemperatureF (s : State) : Accessor.hTemperatureF.value (regRead .tempf s) =
    .quantity (((traw s.frm).toNat / 2 ^ 20 * 200 - 50) * (9 / 5) + 32) := by
  simp only [Accessor.value, regRead, sext, toInt_trunc_tempF]
  congr 1
  push_cast
  ring

/-- A coefficient is read as itself (R143). -/
theorem value_pCoef (k : Fin 12) (s : State) : (Accessor.pCoef k).value (regRead (.coef k) s) =
    .quantity (coef s.calUnsigned s.cal k) := by
  simp only [Accessor.value, regRead, sext, toInt_trunc_coef]

/-- Settles O52: an accessor of a plain register gives the value of the register's read, a flag by `statusWord_bits` and a
quantity by the exact value of its register; the three of result registers read the cache. -/
theorem accessorsGiveExactQuantities : Obligations.AccessorsGiveExactQuantities := by
  intro s gives hgives
  have hplain (a : Accessor) (ha : ∀ q, a.reg ≠ .result q) {v : Reading} (hv : a.value (regRead a.reg s) = v) :
      gives a v := (hgives a v).2 ⟨_, exec_command_of_plain ha s, hv⟩
  obtain ⟨hdata, hbusy, hcal, -, -, -, -, hpdata, -⟩ := statusWord_bits s
  refine ⟨hplain .hHasData nofun (congrArg Reading.flag (hdata.trans (hHasData_eq_decide s))),
    hplain .hBusy nofun (congrArg Reading.flag hbusy), hplain .hCalibrated nofun (congrArg Reading.flag hcal),
    hplain .hHumidity nofun (value_hHumidity s), hplain .hTemperature nofun (value_hTemperature s),
    hplain .hTemperatureF nofun (value_hTemperatureF s),
    hplain .hRawHumidity nofun (quantity_zext32 (by decide) _),
    hplain .hRawTemperature nofun (quantity_zext32 (by decide) _),
    fun k => hplain (.hRawByte k) nofun (quantity_zext32 (by decide) _),
    hplain .pHasData nofun (congrArg Reading.flag hpdata),
    hplain .pRawTemperature nofun (quantity_zext32 (by decide) _),
    hplain .pRawPressure nofun (quantity_zext32 (by decide) _),
    fun k => hplain (.pRawByte k) nofun (quantity_zext32 (by decide) _),
    fun k => hplain (.pCalByte k) nofun (quantity_zext32 (by decide) _),
    fun k => hplain (.pCoef k) nofun (value_pCoef k s), fun hf hn => ?_⟩
  exact ⟨(hgives _ _).2 ⟨_, exec_rd_result_of_cached .tcomp hf hn, rfl⟩,
    (hgives _ _).2 ⟨_, exec_rd_result_of_cached .tfine hf hn, rfl⟩, _, exec_rd_result_of_cached .pcomp hf hn, rfl⟩

end Sys2Proof.Machine
end

section
/-! SUPPORT. What a run that ends with `FAULT = 0` says of its responses (R212), and the statement
FaultFreeRunsReportedNoFault. -/

namespace Sys2Proof.Machine

theorem code_ok_or_mismatch (c : ResultCode) (hc : c.bits.toNat < 2) : c = .ok ∨ c = .mismatch := by
  revert hc
  cases c <;> decide

theorem faultBit_of_code_ne_zero (c : ResultCode) (hc : 2 ≤ c.bits.toNat) : 1#5 <<< (c.bits.toNat - 2) ≠ 0 := by
  revert hc
  cases c <;> decide

/-- The bits are sticky: where `FAULT` is 0 after a response it was 0 before, and the response set none of them (R212). -/
theorem faultFree_of_answers {s t : State} {r : Response} (h : Answers s t r) (ht : t.fault = 0) :
    s.fault = 0 ∧ (r.code = .ok ∨ r.code = .mismatch) := by
  obtain ⟨-, hkeep, hset⟩ := h
  obtain hlow | hhigh := Nat.lt_or_ge r.code.bits.toNat 2
  · exact ⟨hkeep hlow ▸ ht, code_ok_or_mismatch r.code hlow⟩
  · rw [hset hhigh] at ht
    exact absurd (BitVec.or_eq_zero_iff.1 ht).2 (faultBit_of_code_ne_zero r.code hhigh)

/-- Every word that is taken is answered once, whether it is a command or illegal (R10, R82, R88). -/
theorem step_answers {s t : State} {w : CmdWord} {rest : List Input} (hin : s.inputs = .cmd w :: rest)
    (ht : step s = .next t) : ∃ r, Answers s t r := by
  cases hd : decode w with
  | ok i =>
    obtain ⟨r, hr, -⟩ := exec_answers i { s with inputs := rest } t ((step_of_decode_ok s w rest i hin hd).symm.trans ht)
    exact ⟨r, hr⟩
  | error e =>
    cases (step_of_decode_error s w rest e hin hd).symm.trans ht
    exact ⟨_, answers_faultRespond .illegal 0 rfl rfl⟩

theorem run_of_fault_zero (ws : List CmdWord) {s t : State} (hin : s.inputs = ws.map .cmd)
    (hrun : Host.Core.run Sys2Proof.core ws.length s = .next t) (ht : t.fault = 0) :
    s.fault = 0 ∧ ∃ rs : List Response, t.rsps = s.rsps ++ rs ∧ rs.length = ws.length ∧
      ∀ r ∈ rs, r.code = .ok ∨ r.code = .mismatch := by
  induction ws generalizing s with
  | nil =>
    cases hrun
    exact ⟨ht, [], by simp⟩
  | cons w ws ih =>
    obtain ⟨u, hu⟩ := step_next s
    obtain ⟨hrest, -⟩ := step_takes_first_input s u _ _ hin hu
    obtain ⟨hfault, rs, hrsps, hlen, hcodes⟩ := ih hrest ((run_succ_of_step ws.length hu).symm.trans hrun)
    obtain ⟨r, hr⟩ := step_answers hin hu
    obtain ⟨hs, hcode⟩ := faultFree_of_answers hr hfault
    obtain ⟨hrsp, -, -⟩ := hr
    refine ⟨hs, r :: rs, ?_, congrArg (· + 1) hlen, List.forall_mem_cons.2 ⟨hcode, hcodes⟩⟩
    rw [hrsps, hrsp, List.append_assoc, List.singleton_append]

/-- Settles O27, by induction on the words: each is answered once, and a `FAULT` that is 0 afterwards was 0 before. -/
theorem faultFreeRunsReportedNoFault : Obligations.FaultFreeRunsReportedNoFault := by
  intro ws s t hin hrun hfree
  have ht : t.fault = 0 := beq_iff_eq.1 hfree
  obtain ⟨hs, hrsps⟩ := run_of_fault_zero ws hin hrun ht
  exact ⟨beq_iff_eq.2 hs, bne_eq_false_iff_eq.2 ht, hrsps⟩

end Sys2Proof.Machine
end

section
/-! SUPPORT. The humidity and the pressure path share nothing (R229), and the statement PathsDoNotInterfere. A command acts on
one path when, with the elements of that path given, what it makes of them, its response and its `FAULT` bit are the same
whatever the rest of the state is. -/

namespace Sys2Proof.Machine

/-- The second state with the humidity path of the first. -/
def putHumidity (u s : State) : State :=
  { s with crc := u.crc, cnt := u.cnt, stg := u.stg, frm := u.frm, retry := u.retry }

/-- The second state with the pressure path of the first, and the configuration it reads. -/
def putPressure (u s : State) : State :=
  { s with
    cal := u.cal, calptr := u.calptr, pstg := u.pstg, pcnt := u.pcnt, pfrm := u.pfrm, pfrmValid := u.pfrmValid,
    convNeeded := u.convNeeded, pHasData := u.pHasData, tfine := u.tfine, tcomp := u.tcomp, pcomp := u.pcomp,
    pzero := u.pzero, calUnsigned := u.calUnsigned }

theorem sameHumidity_refl (s : State) : SameHumidity s s := ⟨rfl, rfl, rfl, rfl, rfl⟩

theorem samePressure_refl (s : State) : SamePressure s s :=
  ⟨rfl, rfl, rfl, rfl, rfl, rfl, rfl, rfl, ⟨rfl, rfl, rfl, rfl⟩, rfl⟩

theorem putHumidity_of_same {s s' : State} (h : SameHumidity s s') : putHumidity s s' = s' := by
  obtain ⟨hcrc, hcnt, hstg, hfrm, hretry⟩ := h
  rw [putHumidity, ← hcrc, ← hcnt, ← hstg, ← hfrm, ← hretry]

theorem putPressure_of_same {s s' : State} (h : SamePressure s s') : putPressure s s' = s' := by
  obtain ⟨hcal, hptr, hpstg, hpcnt, hpfrm, hvalid, hconv, hdata, ⟨htf, htc, hpc, hpz⟩, hcu⟩ := h
  rw [putPressure, ← hcal, ← hptr, ← hpstg, ← hpcnt, ← hpfrm, ← hvalid, ← hconv, ← hdata, ← htf, ← htc, ← hpc, ← hpz,
    ← hcu]

/-- The response `r` given, and the bits `m` of `FAULT` set (R82, R212). -/
def answer (m : BitVec 5) (r : Response) (s : State) : State :=
  { s with fault := s.fault ||| m, rsps := s.rsps ++ [r] }

theorem respond_eq_answer (c : ResultCode) (d : Data) (s : State) : respond c d s = answer 0 ⟨c, d⟩ s := by
  simp [respond, answer]

/-- With the path that `put` copies as in `s`, the command leaves it as in `u`, gives the response `r` and sets the bits `m`,
and the rest of the state is arbitrary and stays. Of `u` only the elements of that path count. -/
def ActsOn (put : State → State → State) (i : Instr) (s : State) : Prop :=
  ∃ (u : State) (m : BitVec 5) (r : Response), ∀ s', exec i (put s s') = .next (answer m r (put u s'))

section
variable {put : State → State → State} {i : Instr} {s : State}

theorem actsOn_of_respond (c : ResultCode) (d : Data) (u : State)
    (h : ∀ s', exec i (put s s') = .next (respond c d (put u s'))) : ActsOn put i s :=
  ⟨u, 0, ⟨c, d⟩, fun s' => (h s').trans (congrArg _ (respond_eq_answer c d _))⟩

theorem actsOn_of_faultRespond (f : FaultBit) (d : Data) (u : State)
    (h : ∀ s', exec i (put s s') = .next (faultRespond f d (put u s'))) : ActsOn put i s :=
  ⟨u, f.mask, ⟨f.code, d⟩, h⟩

theorem actsOn_of_respondConverted (ov : Bool) (d : Data) (u : State)
    (h : ∀ s', exec i (put s s') = .next (respondConverted ov d (put u s'))) : ActsOn put i s := by
  cases ov with
  | true => exact actsOn_of_faultRespond .ovf d u h
  | false => exact actsOn_of_respond .ok d u h

/-- Two states that agree on the path are both of the form that `ActsOn` speaks of. -/
theorem two_runs_of_actsOn {s' : State} (h : ActsOn put i s) (hs : put s s = s) (hs' : put s s' = s') : ∃ u m r,
    exec i s = .next (answer m r (put u s)) ∧ exec i s' = .next (answer m r (put u s')) := by
  obtain ⟨u, m, r, hexec⟩ := h
  have hrun := hexec s
  have hrun' := hexec s'
  rw [hs] at hrun
  rw [hs'] at hrun'
  exact ⟨u, m, r, hrun, hrun'⟩

end

/-- A read works on a path through a register of that path. -/
theorem register_of_path {n : Byte} {p : Path} (h : pathOf (.rd n) = p) (hp : p ≠ .system) :
    ∃ g : Reg, n = g.number ∧ g.path = p := by
  cases hr : regOf n with
  | none => exact absurd (by simpa [pathOf, hr] using h) hp.symm
  | some g => exact ⟨g, (number_of_regOf n g hr).symm, by simpa [pathOf, hr] using h⟩

theorem regRead_putHumidity {g : Reg} (hg : g.path = .humidity) (u s : State) :
    regRead g (putHumidity u s) = regRead g u := by
  cases g <;> cases hg <;> rfl

theorem regRead_putPressure {g : Reg} (hg : g.path = .pressure) (u s : State) :
    regRead g (putPressure u s) = regRead g u := by
  cases g with
  | result q => cases q <;> rfl
  | _ => cases hg <;> rfl

theorem resultValue_putPressure (q : ResultReg) (u s : State) :
    resultValue q (putPressure u s) = resultValue q u := by
  cases q <;> rfl

theorem conversionOf_putPressure (u s : State) : conversionOf (putPressure u s) = conversionOf u := rfl

theorem storeConversion_putPressure (r : Conversion) (u s : State) :
    storeConversion r (putPressure u s) = putPressure (storeConversion r u) s := rfl

theorem consume_putPressure (q : ResultReg) (u s : State) :
    consume q (putPressure u s) = putPressure (consume q u) s := by
  cases q <;> rfl

/-- Every command of the humidity path: its guards read the humidity path, and so does what it stores. -/
theorem humidity_command_actsOn {i : Instr} (hi : pathOf i = .humidity) (s : State) : ActsOn putHumidity i s := by
  cases i with
  | rd n =>
    obtain ⟨g, rfl, hg⟩ := register_of_path hi nofun
    have hplain : ∀ q, g ≠ .result q := by rintro q rfl; cases hg
    refine actsOn_of_respond .ok (regRead g s) s fun s' => ?_
    rw [← regRead_putHumidity hg s s']
    exact execRd_plain g hplain _
  | crcInit => exact actsOn_of_respond .ok 0 (initCrcUnit s) fun _ => rfl
  | crcByte b =>
    by_cases hn : s.cnt.val < 6
    · exact actsOn_of_respond .ok 0 (acceptCrcByte s b) fun _ => if_pos hn
    · exact actsOn_of_faultRespond .badlen 0 { s with cnt := 7 } fun _ => if_neg hn
  | crcCheck b =>
    by_cases hn : s.cnt.val = 6
    · by_cases hb : s.crc = b
      · exact actsOn_of_respond .ok (crcInfo s.crc b) { initCrcUnit s with frm := wholeFrame s.stg b, retry := false }
          fun s' => exec_crcCheck_of_match (s := putHumidity s s') hn hb
      · exact actsOn_of_respond .mismatch (crcInfo s.crc b) { initCrcUnit s with retry := true }
          fun s' => exec_crcCheck_of_mismatch (s := putHumidity s s') hn hb
    · exact actsOn_of_faultRespond .badlen (crcInfo s.crc b) (initCrcUnit s)
        fun s' => exec_crcCheck_of_badlen b (s := putHumidity s s') hn
  | hStatus b => exact actsOn_of_respond .ok 0 { s with frm := putByte s.frm 0 b } fun _ => rfl
  | hClear => exact actsOn_of_respond .ok 0 { initCrcUnit s with frm := Vector.replicate 7 0, retry := false } fun _ => rfl
  | _ => cases hi

/-- A result read: refused, converting or cached by what the pressure path holds alone (R196). -/
theorem result_read_actsOn (q : ResultReg) (s : State) : ActsOn putPressure (.rd (Reg.number (.result q))) s := by
  obtain ⟨hr, -⟩ | ⟨hf, hn, hv, -⟩ | ⟨hf, hn, -⟩ := readResult_cases q s
  · exact actsOn_of_faultRespond .nodata 0 s fun _ => (exec_rd_result q _).trans (congrArg _ (readResult_of_refused q hr))
  · refine actsOn_of_respondConverted (conversionOf s).ov
      (resultValue q (consume q (storeConversion (conversionOf s) s))) (consume q (storeConversion (conversionOf s) s))
      fun s' => ?_
    have hready : ready (putPressure s s') = true := Bool.and_eq_true_iff.2 ⟨hf, hv⟩
    rw [exec_rd_result, readResult_of_converting q hready hn, conversionOf_putPressure, storeConversion_putPressure,
      consume_putPressure, resultValue_putPressure]
  · refine actsOn_of_respond .ok (resultValue q s) (consume q s) fun s' => ?_
    rw [← resultValue_putPressure q s s', ← consume_putPressure]
    exact exec_rd_result_of_cached q hf hn

/-- Every command of the pressure path: its guards read the pressure path, and so does what it stores. -/
theorem pressure_command_actsOn {i : Instr} (hi : pathOf i = .pressure) (s : State) : ActsOn putPressure i s := by
  cases i with
  | rd n =>
    obtain ⟨g, rfl, hg⟩ := register_of_path hi nofun
    by_cases hresult : ∃ q, g = .result q
    · obtain ⟨q, rfl⟩ := hresult
      exact result_read_actsOn q s
    · refine actsOn_of_respond .ok (regRead g s) s fun s' => ?_
      rw [← regRead_putPressure hg s s']
      exact execRd_plain g (not_exists.1 hresult) _
  | calInit =>
    by_cases hp : s.calptr.val = 26
    · exact actsOn_of_faultRespond .locked 0 s fun _ => exec_calInit_of_locked hp
    · exact actsOn_of_respond .ok 0 { s with calptr := 0 } fun _ => exec_calInit_of_unlocked hp
  | calByte b =>
    by_cases hp : s.calptr.val = 26
    · exact actsOn_of_faultRespond .locked 0 s fun _ => exec_calByte_of_locked b hp
    · exact actsOn_of_respond .ok 0 (storeCalByte s b) fun _ => if_neg (mt (calValid_iff s).1 hp)
  | pInit => exact actsOn_of_respond .ok 0 { s with pcnt := 0 } fun _ => rfl
  | pByte b =>
    by_cases hn : s.pcnt.val < 6
    · exact actsOn_of_respond .ok 0 (storePByte s b) fun _ => if_pos hn
    · exact actsOn_of_faultRespond .badlen 0 { s with pcnt := 7 } fun _ => if_neg hn
  | pCommit =>
    by_cases hn : s.pcnt.val = 6
    · exact actsOn_of_respond .ok 0
        { s with pfrm := s.pstg, pfrmValid := true, convNeeded := true, pHasData := true, pcnt := 0 }
        fun _ => exec_pCommit_of_full hn
    · exact actsOn_of_faultRespond .badlen 0 { s with pcnt := 0 } fun _ => exec_pCommit_of_badlen hn
  | convert =>
    by_cases hready : ready s = true
    · exact actsOn_of_respondConverted (conversionOf s).ov 0 (storeConversion (conversionOf s) s)
        fun s' => exec_convert_of_ready (s := putPressure s s') hready
    · refine actsOn_of_faultRespond .nodata 0 s fun s' => exec_convert_of_refused (s := putPressure s s') ?_
      rw [ready_iff, not_and_or, Bool.not_eq_true] at hready
      exact hready
  | _ => cases hi

/-- Settles O38: a command acts on its own path, so its two runs differ only in what they leave as it was. -/
theorem pathsDoNotInterfere : Obligations.PathsDoNotInterfere := by
  constructor <;> intro i s s' hi hsame
  · obtain ⟨u, m, r, hexec, hexec'⟩ :=
      two_runs_of_actsOn (humidity_command_actsOn hi s) rfl (putHumidity_of_same hsame)
    exact ⟨_, _, r, m, hexec, hexec', sameHumidity_refl u, rfl, rfl, rfl, rfl, samePressure_refl s, samePressure_refl s'⟩
  · obtain ⟨u, m, r, hexec, hexec'⟩ :=
      two_runs_of_actsOn (pressure_command_actsOn hi s) rfl (putPressure_of_same hsame)
    exact ⟨_, _, r, m, hexec, hexec', samePressure_refl u, rfl, rfl, rfl, rfl, sameHumidity_refl s, sameHumidity_refl s'⟩

end Sys2Proof.Machine
end

section
/-! SUPPORT. Hardware reset (R240): the step that takes it, the derived values it leaves, what no command undoes, and the
statement HardwareResetValuesAndItsPrivileges. -/

namespace Sys2Proof.Machine

theorem step_of_rst {s : State} {rest : List Input} (h : s.inputs = .rst :: rest) :
    step s = .next (hardwareReset { s with inputs := rest }) := by
  simp [step, takeInput_cons s _ _ h]

theorem coef_of_reset (cu : CalUnsigned) (k : Fin 12) : coef cu State.reset.cal k = 0 := by
  have hraw : ∀ k, raw16 State.reset.cal k = 0 := by decide
  rw [coef, hraw k]
  split <;> rfl

/-- The derived values of R240; they do not depend on the configuration. -/
theorem derived_values_of_reset :
    calValid State.reset = false ∧ statusWord State.reset = 0 ∧ hraw State.reset.frm = 0 ∧ traw State.reset.frm = 0 ∧
    hum State.reset.frm = 0 ∧ tempC State.reset.frm = -52428800 ∧ tempF State.reset.frm = -60817408 ∧
    adcT State.reset.pfrm = 0 ∧ adcP State.reset.pfrm = 0 := by
  decide

/-- No command clears a bit of `FAULT`, unlocks or changes a locked `CAL`, or clears `PFRMVALID` (R240). -/
theorem exec_keeps_fault_lock_and_pfrmValid {i : Instr} {s t : State} (h : exec i s = .next t) :
    t.fault &&& s.fault = s.fault ∧ (s.calptr.val = 26 → t.calptr.val = 26 ∧ t.cal = s.cal) ∧
    (s.pfrmValid = true → t.pfrmValid = true) := by
  refine ⟨exec_keeps_fault_bits h, fun hp => ?_, fun hf => (exec_pfrmValid_iff h).2 (.inl hf)⟩
  obtain ⟨-, hlocked, -⟩ := calibrationLocksWhole
  obtain ⟨hcal, hptr⟩ := hlocked i s t ((calValid_iff s).2 hp) h
  exact ⟨hptr ▸ hp, hcal⟩

/-- Settles O9: a reset step leaves the elements of the reset state, so its values are those of O10; of the other steps, a
command keeps the three by `exec_keeps_fault_lock_and_pfrmValid`, and an illegal word only adds a bit of `FAULT`. -/
theorem hardwareResetValuesAndItsPrivileges : Obligations.HardwareResetValuesAndItsPrivileges := by
  refine ⟨fun s rest hin => ⟨_, step_of_rst hin, ?_⟩, fun s t ht hrst => ?_⟩
  · obtain ⟨hcrc, hcnt, hstg, hfrm, hretry, hcal, hptr, hpstg, hpcnt, hpfrm, hvalid, hconv, hdata, htf, htc, hpc, hpz,
      hfault⟩ := resetStateHoldsTheResetColumn
    obtain ⟨hcalValid, hstatus, hhraw, htraw, hhum, htempC, htempF, hadcT, hadcP⟩ := derived_values_of_reset
    exact ⟨hcrc, hcnt, hstg, hfrm, hretry, hcal, hptr, hpstg, hpcnt, hpfrm, hvalid, hconv, hdata, htf, htc, hpc, hpz,
      hfault, hcalValid, hstatus, hhraw, htraw, hhum, htempC, htempF, hadcT, hadcP, coef_of_reset s.calUnsigned⟩
  · obtain ⟨-, h⟩ | ⟨rest, hin, -⟩ | ⟨w, rest, i, -, -, h⟩ | ⟨w, rest, e, -, -, h⟩ := step_cases s
    · rw [h] at ht; cases ht
      exact ⟨BitVec.and_self, fun hp => ⟨hp, rfl⟩, id⟩
    · exact absurd (congrArg List.head? hin) hrst
    · rw [h] at ht
      exact exec_keeps_fault_lock_and_pfrmValid (s := { s with inputs := rest }) ht
    · rw [h] at ht; cases ht
      exact ⟨fault_or_and_self _ _, fun hp => ⟨hp, rfl⟩, id⟩

end Sys2Proof.Machine
end

section
/-! SUPPORT. A command of each path, in either order (R251), and the statement CommandsOfDifferentPathsCommute. -/

namespace Sys2Proof.Machine

/-- Settles O39: what the other command did is part of the rest of the state that `ActsOn` leaves arbitrary, the two paths
are disjoint sets of elements, and the bits of `FAULT` add up in either order. -/
theorem commandsOfDifferentPathsCommute : Obligations.CommandsOfDifferentPathsCommute := by
  intro i j s hi hj
  obtain ⟨u, m, a, hexec_i⟩ := humidity_command_actsOn hi s
  obtain ⟨v, n, b, hexec_j⟩ := pressure_command_actsOn hj s
  have hfault : s.fault ||| n ||| m = s.fault ||| m ||| n := by ac_rfl
  refine ⟨_, _, _, _, a, b, hexec_i s, hexec_j (answer m a (putHumidity u s)), hexec_j s,
    hexec_i (answer n b (putPressure v s)), List.append_assoc .., List.append_assoc .., ?_⟩
  simp only [answer, putHumidity, putPressure, hfault]

end Sys2Proof.Machine
end
